-- ==== Sys2Proof/Word.lean ====
section
/-!
DEFINITION. The word types of the Cursal 3120: a word is 16 bits throughout (section 1.6 of 00_scope.md), a sample is
0 to 4,095 (R44), the round count has 24 bits (R14), a round body has 32 slots (R5).
-/

namespace Sys2Proof

/-- A 16-bit word of the capture store, the setup block, a staging slot or the status block (section 1.6). -/
abbrev Word := BitVec 16

/-- A sample, 0 to 4,095 (R44). -/
abbrev Sample := BitVec 12

/-- The 24-bit round count (R14). -/
abbrev RoundCount := BitVec 24

/-- The 32 body slots of a round; b0, the first on the line, is the most significant bit (section 1.6, R185). -/
abbrev Body := BitVec 32

/-- One of the ten inputs of the converter (section 4.1): 0 to 7 external, 8 temperature, 9 reference. -/
abbrev Input := Fin 10

/-- A sparse list of word masks by address, as an event reports them. -/
abbrev WordMasks := List (Nat × Word)

end Sys2Proof
end

