-- ==== Sys2Proof/Config.lean ====
section
/-!
DEFINITION. What is fixed for every Cursal 3120: the sizes and limits the spec states. The settings a station takes from
its setup block are state (the working copy, R165), not configuration. The spec leaves no result of a command open that
is not carried by the command itself (samples, verify outcomes, random draws, what a cut-off write left): log entry 3.
-/

namespace Sys2Proof.Config

/-- Words of one bank of the capture store (section 8, R115). -/
def bankWords : Nat := 16384

/-- Words of the setup block (section 11.1). -/
def setupWords : Nat := 31

/-- Slots of a round (R5). -/
def roundSlots : Nat := 38

/-- Words of the status block (R146). -/
def statusWords : Nat := 12

/-- The least and the greatest length of a record (R104). -/
def minRecord : Nat := 13
def maxRecord : Nat := 726

/-- Slot times after which a silent line makes the Line Interface SILENT (R18). -/
def silenceSlots : Nat := 76

/-- Slot times added to the random draw of the backoff (R18). -/
def backoffBase : Nat := 8

/-- Single intervals between the two marks of the mark search (R17). -/
def markSingles : Nat := 36

/-- Released rounds before the line rests (R178). -/
def restRounds : Nat := 32

/-- The greatest number of capture rounds of one capture (R89). -/
def maxCaptureRounds : Nat := 32

/-- Sync losses at which a member withdraws (R31). -/
def maxSyncLosses : Nat := 3

/-- The greatest missed count (R84). -/
def maxMissed : Nat := 15

/-- Numbers a merge list holds (R88). -/
def maxMerges : Nat := 4

/-- Attempts of one word program, the retries included (R114). -/
def maxAttempts : Nat := 3

end Sys2Proof.Config
end

