-- ==== Sys2Proof/Syntax.lean ====
section
/-!
DEFINITION. The commands of the station: one constructor per row of spec/opcode_table.json, with the operands the event
carries. The station is a block: a command is an event on the line, a pin, a timer, a conversion or a memory operation.
What the spec leaves to the outside (the bits the line carried, a sample, a random draw, whether a program or erase took,
what a cut-off write left) is an operand, so every claim about a command holds for each of its values (log entry 3).
-/

namespace Sys2Proof

/-- The four quarters of a slot (section 2.1). -/
inductive Quarter where
  | q1 | q2 | q3 | q4
  deriving DecidableEq, Repr

/-- The eight kinds of a round (R7, R185). -/
inductive Kind where
  | incident | probe | roll | order | reply | epoch | unassigned | quiet
  deriving DecidableEq, Repr

/-- The two banner flags of a round as read; true is pulled, which the line carries as 0 (R7, R185). -/
structure Banner where
  alert : Bool
  stay : Bool
  deriving DecidableEq, Repr

/-- What the line carried in the data slots of one round: slots 1 to 37 as sampled (R5, R185). -/
structure Round where
  kind : Kind
  banner : Banner
  body : Body
  deriving DecidableEq, Repr

/-- What the line does to an ALIGNED station outside the round's samples: it falls in a quarter of a slot, or stays low
through the whole of Q1 of a slot without falling in it (R4, R20). -/
inductive LineEdge where
  | fall (slot : Fin 38) (quarter : Quarter)
  | lowThroughQ1 (slot : Fin 38)
  deriving DecidableEq, Repr

/-- What an operation of the NV Programmer had not yet done when a start or the loss of the supply cut it off (R134, R175).
`bits`: the bits a word program (or the condemn write of a bank erase) had still to clear.
`condemning`: a bank erase was still in its condemn write. `headerErased`: a bank erase past it had already set the header.
`unset`: by address, the zero bits an erase had still to set; an address not listed was wholly erased. `headerDirty`: the
header write of a bank that opens was cut off so that the bank is DIRTY (R134, log entry 36). -/
structure Cut where
  bits : Word
  condemning : Bool
  headerErased : Bool
  unset : WordMasks
  headerDirty : Bool
  deriving DecidableEq, Repr

/-- What a start meets: the five strap levels, NUM4 most significant (R24), and what it cuts off. -/
structure StartInputs where
  straps : BitVec 5
  cut : Cut
  deriving DecidableEq, Repr

/-- The commands. Each constructor's docstring names its row of the opcode table and the row's rule. -/
inductive Instr where
  /-- START (R1): power applied, or RESET released. RESET held asserted is no command and no state (log entry 29). -/
  | start (i : StartInputs)
  /-- SETUP_VALIDATION (R166): validation of the setup block ends. -/
  | setupValidation
  /-- STARTUP_SCAN (R135): the start-up scan of the capture store ends. -/
  | startupScan
  /-- ALIGN_BY_MARKS (R17): a double interval ends while SEEKING. -/
  | alignByMarks
  /-- SILENCE_TIMER_EXPIRY (R18): the silence timer reaches 76; whether the line reads 1, and the fresh draw 0 to 63. -/
  | silenceTimerExpiry (lineHigh : Bool) (draw : BitVec 6)
  /-- EDGE_DURING_BACKOFF (R19): the line falls (true), or is found low without a fall (false). -/
  | edgeDuringBackoff (fell : Bool)
  /-- OPEN_LINE (R19): the backoff timer reaches 0 with the line high. -/
  | openLine
  /-- FOREIGN_PULSE (R20): what the line did and where in the station's own slot. -/
  | foreignPulse (edge : LineEdge)
  /-- DRIVER_FAULT (R12): a 0 sent in a data slot sampled 1. -/
  | driverFault
  /-- MARK_SLOT (R6): a mark slot begins; the 16-bit code drawn for a PROBE offer (R26). -/
  | markSlot (code : BitVec 16)
  /-- BURST_POINT (R52): burst point d of a capture round. -/
  | burstPoint (d : Fin 4)
  /-- SURVEY_CONVERSION_DONE (R47): the survey conversion in flight yields a sample. -/
  | surveyConversionDone (x : Sample)
  /-- BURST_CONVERSION_DONE (R56): the burst conversion in flight yields a sample. -/
  | burstConversionDone (x : Sample)
  /-- QUIET_ROUND (R8): the end of a round of kind 7, or of kind 6 when `unassigned`. -/
  | quietRound (banner : Banner) (unassigned : Bool) (body : Body)
  /-- ROLL_TIMER_DUE (R37): the round end at which the roll timer comes to the roll period. -/
  | rollTimerDue (r : Round) (i : StartInputs)
  /-- OPEN_TIMER_EXPIRY (R156): the round end at which the open timer comes to the open timeout. -/
  | openTimerExpiry (r : Round) (i : StartInputs)
  /-- CAPTURE_END (R86): the capture round end at which remaining rounds stands at 0. -/
  | captureEnd (r : Round) (i : StartInputs)
  /-- ENTER_DORMANT (R179): the round end at which the rest count comes to 32. -/
  | enterDormant (r : Round) (i : StartInputs)
  /-- INCIDENT_ROUND (R79): the end of a round of kind INCIDENT. -/
  | incidentRound (banner : Banner) (body : Body)
  /-- ALERT_PULSE_END (R93): the 100 µs of the ALERT pulse are over. -/
  | alertPulseEnd
  /-- PROBE_ROUND (R28): the end of a round of kind PROBE. -/
  | probeRound (banner : Banner) (body : Body)
  /-- ROLL_ROUND (R40): the end of a round of kind ROLL. -/
  | rollRound (banner : Banner) (body : Body)
  /-- EPOCH_ROUND (R15): the end of a round of kind EPOCH. -/
  | epochRound (banner : Banner) (body : Body)
  /-- REPLY_ROUND (R142): the end of a round of kind REPLY. -/
  | replyRound (banner : Banner) (body : Body)
  /-- STREAM_WORD_LOAD (R147): the read of the stream's next word completes. -/
  | streamWordLoad
  /-- FETCH (R144): the end of an ORDER round to this station, FETCH of a number 1 to 65,534. -/
  | fetch (banner : Banner) (n : Word)
  /-- FETCH_OLDEST_UNREAD (R145): FETCH with argument 0. -/
  | fetchOldestUnread (banner : Banner)
  /-- FETCH_STATUS (R146): FETCH with argument 65,535. -/
  | fetchStatus (banner : Banner)
  /-- MARK (R150). -/
  | mark (banner : Banner) (n : Word)
  /-- UNLOCK (R160). -/
  | unlock (banner : Banner) (part : Word)
  /-- RELOCK (R162); its argument has no effect. -/
  | relock (banner : Banner) (arg : Word)
  /-- LOAD (R151). -/
  | load (banner : Banner) (value : Word)
  /-- PROGRAM (R170) of the word the argument names. -/
  | program (banner : Banner) (word : Word)
  /-- ERASE (R152) with any argument but 2. -/
  | erase (banner : Banner) (arg : Word)
  /-- ERASE_SETUP_PULSE (R172): ERASE with argument 2. -/
  | eraseSetupPulse (banner : Banner)
  /-- RESTART (R154); its argument has no effect; what the start it causes meets. -/
  | restart (banner : Banner) (arg : Word) (i : StartInputs)
  /-- WORD_PROGRAM_DONE (R114): one attempt of a word program ends; the bits it failed to clear. -/
  | wordProgramDone (missed : Word)
  /-- BANK_ERASE_DONE (R115): a bank erase ends; by address the zero bits it failed to set, and, should it have failed,
  the header bits the rewrite to 0000h failed to clear. -/
  | bankEraseDone (unset : WordMasks) (missed : Word)
  /-- SETUP_PROGRAM_PULSE_DONE (R171): a setup program pulse ends; the bits a fourth pulse failed to clear. -/
  | setupProgramPulseDone (missed : Word)
  /-- SETUP_ERASE_PULSE_DONE (R173): a setup erase pulse ends; by index the zero bits an eighth pulse failed to set. -/
  | setupErasePulseDone (unset : WordMasks)
  /-- SENSE_TIMER_EXPIRY (R180). -/
  | senseTimerExpiry
  /-- SENSE_CONVERSION_DONE (R62). -/
  | senseConversionDone (x : Sample)
  /-- FORCED_WAKE_EXPIRY (R181). -/
  | forcedWakeExpiry
  /-- WAKE_PATTERN_END (R22): the third low ends. -/
  | wakePatternEnd
  /-- LONG_LOW (R23): the low being timed has lasted 400 µs. -/
  | longLow
  /-- PATTERN_WINDOW_EXPIRY (R182): the pattern window reaches 10 ms. -/
  | patternWindowExpiry
  /-- ORDER_ROUND (R139): the end of an ORDER round with any body; what a start would meet, should the body be a RESTART
  that this station takes. -/
  | orderRound (banner : Banner) (body : Body) (i : StartInputs)
  /-- MARK_SEARCH_EDGE (R17): a falling edge while SEEKING; the interval since the last edge in hundredths of the
  station's own slot time. -/
  | markSearchEdge (interval : Nat)
  /-- LONG_LOW_TIMING_START (R23): the line falls in DORMANT. -/
  | longLowTimingStart
  /-- LINE_RISE (R23, R19): the line rises. -/
  | lineRise
  /-- POWER_LOSS (R134): the supply is removed; what that cuts off. -/
  | powerLoss (cut : Cut)
  deriving DecidableEq, Repr

end Sys2Proof
end

