-- ==== Sys2Proof/Machine/Settings.lean ====
section
/-!
DEFINITION. The working copy: the settings of setup words 0 to 29 as validated (R165), and the defaults of R168.
-/

namespace Sys2Proof.Machine

/-- Store policy (R125). -/
inductive StorePolicy where
  | overwrite | keep
  deriving DecidableEq, Repr

/-- ALERT pin mode (R93, R94). -/
inductive PinMode where
  | pulse | level
  deriving DecidableEq, Repr

/-- The window of one external input (R57). -/
structure Window where
  low : Sample
  high : Sample
  deriving DecidableEq, Repr

/-- The three parts of the key (R157). -/
structure Key where
  part1 : Word
  part2 : Word
  part3 : Word
  deriving DecidableEq, Repr

/-- The settings every block runs on from the end of validation to the next start (R165). -/
structure Settings where
  /-- slots per second: 5,000, 10,000, 20,000 or 40,000 (R3) -/
  slotRate : Nat
  /-- rounds: 64, 256, 1,024 or 4,096 (R37) -/
  rollPeriod : Nat
  policy : StorePolicy
  dormancyAllowed : Bool
  /-- wake count three (true) or one (R182) -/
  wakeThree : Bool
  pinMode : PinMode
  /-- rounds: 1,024, 4,096 or 16,384, or none (R156) -/
  openTimeout : Option Nat
  /-- the survey list, N entries (R46) -/
  survey : List Input
  /-- the segment size S (R46) -/
  segment : Nat
  /-- the trip setting, 1 to 4 (R57) -/
  trip : Nat
  /-- the ring capacity P, 0 to 15 (R64) -/
  ringCapacity : Nat
  /-- the post length L, 1 to 16 (R77) -/
  postLength : Nat
  /-- the burst list, B entries (R51) -/
  burst : List Input
  /-- the burst density D: 1, 2 or 4 (R51) -/
  density : Nat
  senseInput : Fin 8
  /-- ms: 16, 64, 256 or 1,024 (R180) -/
  sensePeriod : Nat
  /-- minutes: 1, 10 or 60, or off (R181) -/
  forcedWake : Option Nat
  windows : Vector Window 8
  /-- µs of each input 0 to 7: 4, 8, 16 or 32 (R44) -/
  sampleTimes : Vector Nat 8
  key : Key
  deriving DecidableEq, Repr

/-- The key of an erased block: all ones (R166). -/
def openKey : Key := ⟨0xFFFF, 0xFFFF, 0xFFFF⟩

/-- The default settings of R168, under a given key. -/
def defaultSettings (key : Key) : Settings where
  slotRate := 20000
  rollPeriod := 256
  policy := .keep
  dormancyAllowed := false
  wakeThree := true
  pinMode := .pulse
  openTimeout := some 4096
  survey := [0, 1, 2, 3, 4, 5, 6, 7]
  segment := 8
  trip := 2
  ringCapacity := 8
  postLength := 8
  burst := [0]
  density := 1
  senseInput := 0
  sensePeriod := 256
  forcedWake := none
  windows := Vector.replicate 8 ⟨0, 4095⟩
  sampleTimes := Vector.replicate 8 8
  key := key

end Sys2Proof.Machine
end

