-- ==== Sys2Proof/Machine/State.lean ====
section
/-!
DEFINITION. The state of the station, block by block as the spec's state tables give it, and the state right after a
start. Plain data throughout. INVENTORY.md lists each field with its rule and its reset value.
-/

namespace Sys2Proof.Machine

/-- Why a run can stop with a fault. -/
inductive Fault where
  /-- Raised by WORD_PROGRAM_DONE alone, when the word being programmed lies past the end of its bank: a record never
  extends past word 16,383 (R120), so no run of the station reaches it. Safe: the model stops where the hardware has no
  such word. -/
  | addressOutsideBank
  deriving DecidableEq, Repr

/-- Why a command can be refused. -/
inductive Refusal where
  /-- Raised by an arm of `exec` that has no meaning yet; no arm is left so. Safe. -/
  | notModelled (mnemonic : String)
  deriving DecidableEq, Repr

/-! ### Pins and timers -/

/-- A running timer of the station's own timebase: what it has counted, and the units of 50 ns since. -/
structure Timer where
  count : Nat
  sub : Nat
  deriving DecidableEq, Repr

/-- The pins that are state: the straps as wired, and the two outputs (true is low, asserted). -/
structure Pins where
  straps : BitVec 5
  alertLow : Bool
  /-- the ALERT pulse in progress in pulse mode, by its time so far (R93) -/
  alertPulse : Option Nat
  faultLow : Bool
  deriving DecidableEq, Repr

/-! ### Line Interface (chapter 2) -/

/-- The alignment condition (R16). -/
inductive Align where
  | seeking | silent | aligned
  deriving DecidableEq, Repr

/-- The mark search (R17): whether the search has seen an edge, and, after a first mark, the single intervals since. -/
structure Search where
  edgeSeen : Bool
  singles : Option Nat
  deriving DecidableEq, Repr

/-- The statuses of a REPLY (R143), in the order of their codes (R185). -/
inductive Status where
  | data | last | done | pending | locked | absent | busy | refused
  deriving DecidableEq, Repr

/-- One reply: status and data (R142). -/
structure Reply where
  status : Status
  value : Word
  deriving DecidableEq, Repr

/-- The four field values a station offering INCIDENT contributes (R77); neutral pre-depth is 15, neutral origin 255. -/
structure IncidentOffer where
  number : Word
  preDepth : BitVec 4
  postCode : BitVec 4
  origin : BitVec 8
  deriving DecidableEq, Repr

/-- The one kind a station offers in a round, with its body's fields (R6). -/
inductive KindOffer where
  | none
  | incident (fields : IncidentOffer)
  | probe (code : BitVec 16)
  | roll
  | reply (r : Reply)
  deriving DecidableEq, Repr

/-- The station's offers for the round in progress, taken at its mark slot (R6). -/
structure Offers where
  kind : KindOffer
  /-- whether it pulls the ALERT and STAY flags -/
  banner : Banner
  /-- MEMBER at the mark slot: it contributes presence to a ROLL body and stands ready to DEFEND (R27, R38) -/
  member : Bool
  /-- the store-full contribution to a ROLL body (R38) -/
  storeFull : Bool
  /-- it claims a place in the incident (R77) -/
  claims : Bool
  /-- the round is a capture round (R51) -/
  captureRound : Bool
  deriving DecidableEq, Repr

/-- The long-low detector (R23): idle, timing a low, or past its report of the low that still lasts. -/
inductive Detector where
  | idle | timing | reported
  deriving DecidableEq, Repr

/-- The Line Interface. -/
structure Line where
  align : Align
  phase : Quarter
  /-- units of 50 ns since the quarter began -/
  phaseTime : Nat
  position : Fin 38
  search : Search
  /-- the silence timer in slot times; none is stopped (R18) -/
  silence : Option Timer
  /-- the line was found low without a fall; the silence timer waits for its rise (R19) -/
  heldLow : Bool
  /-- the backoff timer's slot times left; none is stopped (R18) -/
  backoff : Option Timer
  /-- the offers of the round in progress; none when its mark slot did not begin as ALIGNED (R13) -/
  round : Option Offers
  /-- one past the last burst point taken in the capture round in progress; 0 when none is (R51) -/
  burstPoints : Nat
  count : RoundCount
  detector : Detector
  /-- units of 50 ns of the low being timed -/
  lowTime : Nat
  /-- the wake pattern being sent, by its time so far (R22) -/
  pattern : Option Nat
  deriving DecidableEq, Repr

/-! ### Membership Controller (chapter 3) -/

/-- The membership states, in the order of their status codes (R189). -/
inductive MemberState where
  | starting | seeking | joining | member | dormant | withdrawn
  deriving DecidableEq, Repr

/-- The withdraw causes, in the order of their status codes (R189). -/
inductive Cause where
  | none | number | duplicate | sync | driver
  deriving DecidableEq, Repr

/-- A roster entry (R40). -/
structure RosterEntry where
  present : Bool
  misses : Nat
  deriving DecidableEq, Repr

/-- The Membership Controller. -/
structure Membership where
  state : MemberState
  number : BitVec 5
  cause : Cause
  syncLosses : Nat
  rollTimer : Nat
  roster : Vector RosterEntry 31
  deriving DecidableEq, Repr

/-! ### Acquisition Sequencer and window monitors (chapter 4) -/

/-- What the converter is converting for (R44). -/
inductive Converter where
  | idle | survey | burst | sense
  deriving DecidableEq, Repr

/-- The pass under way (R47): its segment index and the samples so far. -/
structure PassUnderWay where
  segment : Nat
  samples : List Sample
  deriving DecidableEq, Repr

/-- The burst repetition in flight (R52): the primary number of the capture it belongs to, its capture round counted
from 0, its repetition d and the entry e being converted. -/
structure Repetition where
  primary : Word
  round : Nat
  d : Nat
  e : Nat
  deriving DecidableEq, Repr

/-- The Acquisition Sequencer. A latest value or baseline `none` is the spec's none, or raw (R50, R55). -/
structure Sequencer where
  converter : Converter
  /-- units of 50 ns of the conversion in flight -/
  elapsed : Nat
  pass : Option PassUnderWay
  pointer : Nat
  repetition : Option Repetition
  latest : Vector (Option Sample) 10
  baselines : List (Option Sample)
  deriving DecidableEq, Repr

/-- One window monitor (R57); `tripped`: the input is in the trip set. -/
structure Monitor where
  count : Nat
  armed : Bool
  tripped : Bool
  deriving DecidableEq, Repr

/-- The eight window monitors and the alert-pending flag (R57). -/
structure Monitors where
  inputs : Vector Monitor 8
  alertPending : Bool
  deriving DecidableEq, Repr

/-! ### Pre-Trigger Ring (chapter 5) -/

/-- One ring entry (section 5.1); its entry count is the number of its samples. -/
structure Pass where
  count : RoundCount
  segment : Nat
  short : Bool
  samples : List Sample
  deriving DecidableEq, Repr

/-! ### Incident Engine (chapter 6) -/

/-- The incident state (R73). -/
inductive IncidentState where
  | idle | capturing
  deriving DecidableEq, Repr

/-- The Incident Engine. -/
structure Engine where
  state : IncidentState
  next : Word
  exhausted : Bool
  missed : Nat
  firstMissed : Word
  due : Bool
  primary : Word
  captured : Nat
  remaining : Nat
  merges : List Word
  overflow : Bool
  cut : Bool
  deriving DecidableEq, Repr

/-! ### Staging Queue (chapter 7) -/

/-- The two staging slots. -/
inductive SlotId where
  | slot0 | slot1
  deriving DecidableEq, Repr

/-- One pass of a record's pre part (R99). -/
structure CopiedPass where
  segment : Nat
  short : Bool
  age : Nat
  samples : List Sample
  deriving DecidableEq, Repr

/-- A record under construction: the opening header (R98), the pre part (R99), the baselines (R100) and the burst part,
one block a capture round (R101). -/
structure Construction where
  primary : Word
  origin : BitVec 8
  preDepth : BitVec 4
  postCode : BitVec 4
  station : BitVec 5
  burstLength : Nat
  density : Nat
  stamp : RoundCount
  roster : Vector Bool 31
  missed : Nat
  firstMissed : Word
  pre : List CopiedPass
  baselines : List (Option Sample)
  blocks : List (List Word)
  deriving DecidableEq, Repr

/-- A staging slot (R96). -/
inductive Slot where
  | empty
  | filling (c : Construction)
  | ready (primary : Word) (image : List Word)
  | committing (primary : Word) (image : List Word)
  deriving DecidableEq, Repr

/-- The Staging Queue. -/
structure Staging where
  slot0 : Slot
  slot1 : Slot
  handOver : List SlotId
  deriving DecidableEq, Repr

/-! ### Capture Store and NV Programmer (chapter 8) -/

/-- The two banks. -/
inductive BankId where
  | bank0 | bank1
  deriving DecidableEq, Repr

/-- The bank states, in the order of their status codes (R117, R189). -/
inductive BankState where
  | fresh | opened | closed | dirty | erasing | bad
  deriving DecidableEq, Repr

/-- Where a record lies in its bank (R120). -/
structure Extent where
  position : Nat
  length : Nat
  deriving DecidableEq, Repr

/-- One bank as the store knows it; its records in order of position (R120). -/
structure Bank where
  state : BankState
  erasePending : Bool
  records : List Extent
  deriving DecidableEq, Repr

/-- Where the start-up scan stands: a bank's header and content, the record at a position of a bank's walk, or all read
(R135 to R137). -/
inductive ScanStage where
  | classify (b : BankId)
  | walk (b : BankId) (position : Nat)
  | decide
  deriving DecidableEq, Repr

/-- What the start-up scan has found so far (R135 to R138): the words read in its stage, the sequence values, the append
points the walks reached, and the greatest incident number, 0 when none. -/
structure Scan where
  stage : ScanStage
  read : Nat
  value0 : Option Word
  value1 : Option Word
  append0 : Option Nat
  append1 : Option Nat
  greatest : Nat
  deriving DecidableEq, Repr

/-- The scan as it begins. -/
def Scan.first : Scan := ⟨.classify .bank0, 0, none, none, none, none, 0⟩

/-- The Capture Store. -/
structure Store where
  bank0 : Bank
  bank1 : Bank
  openBank : Option BankId
  appendPoint : Nat
  full : Bool
  unread : Nat
  voidQueue : List (BankId × Extent)
  /-- the bank being erased was BAD when its erase began, and FAULT holds until the erase verifies (R43, R129) -/
  stillBad : Bool
  /-- the start-up scan has ended (R24) -/
  scanned : Bool
  scan : Scan
  deriving DecidableEq, Repr

/-- A non-volatile array: the words that do not read FFFFh, by rising address (log entry 8). -/
abbrev Nv := List (Nat × Word)

/-- The non-volatile arrays (R113). -/
structure Arrays where
  bank0 : Nv
  bank1 : Nv
  setup : Nv
  deriving DecidableEq, Repr

/-- What a word program is for. `awaited`: the Order Unit still awaits the MARK's report (R140, R150). -/
inductive Purpose where
  | header
  | commitWord
  | commitVoid
  | mark (n : Word) (awaited : Bool)
  | voidMark
  deriving DecidableEq, Repr

/-- A word program in progress: the value programmed, the value the word is meant to hold after it, and the attempt,
1 to 3 (R114). -/
structure WordOp where
  purpose : Purpose
  bank : BankId
  address : Nat
  value : Word
  meant : Word
  attempt : Nat
  deriving DecidableEq, Repr

/-- A setup pulse (R170, R172). `owed`: its answer is owed (R174). -/
inductive Pulse where
  | program (word : Nat) (value : Word) (position : Nat) (owed : Bool)
  | erase (position : Nat) (owed : Bool)
  deriving DecidableEq, Repr

/-- The operation in progress (R131). A bank erase holds what its header read before the condemn write. -/
inductive Operation where
  | idle
  | word (w : WordOp)
  | bankErase (b : BankId) (oldHeader : Word)
  | pulse (p : Pulse)
  deriving DecidableEq, Repr

/-- A commit in progress (R121): `next` is 0 for STARTED, 1 to length - 1 for that word of the image, length for
COMPLETE. -/
structure Commit where
  slot : SlotId
  bank : BankId
  start : Nat
  length : Nat
  next : Nat
  deriving DecidableEq, Repr

/-- A MARK waiting (R132). -/
structure MarkJob where
  number : Word
  awaited : Bool
  deriving DecidableEq, Repr

/-- The NV Programmer. -/
structure Programmer where
  op : Operation
  /-- units of 50 ns of the operation in progress -/
  elapsed : Nat
  commit : Option Commit
  pulses : List Pulse
  marks : List MarkJob
  deriving DecidableEq, Repr

/-! ### Order Unit, Readout Lock, Setup Block, Rest Controller (chapters 9 to 12) -/

/-- A stream (R147). -/
inductive Stream where
  | record (bank : BankId) (position length offset : Nat) (primary : Word)
  | status (offset : Nat)
  deriving DecidableEq, Repr

/-- The read of a stream's next word (R147): none under way, waiting for a word program in its bank, or read. -/
inductive StreamRead where
  | none | waiting | ready (w : Word)
  deriving DecidableEq, Repr

/-- The sequence of setup pulses under way (R140). -/
inductive PulseIndex where
  | program (word : Nat)
  | erase
  deriving DecidableEq, Repr

/-- The Order Unit. -/
structure Orders where
  outbox : Option Reply
  /-- the outbox was replaced under R148 since the round's mark slot -/
  replaced : Bool
  awaited : Option Word
  stream : Option Stream
  read : StreamRead
  openTimer : Nat
  holding : Word
  pulseCount : Nat
  pulseIndex : Option PulseIndex
  deriving DecidableEq, Repr

/-- The lock states, in the order of their status codes (R157, R189). -/
inductive Lock where
  | locked | key1 | key2 | opened
  deriving DecidableEq, Repr

/-- The setup fault, in the order of its status codes (R189). -/
inductive SetupFault where
  | none | range | check
  deriving DecidableEq, Repr

/-- The answer owed (section 11.1). -/
inductive Owed where
  | none
  | program (word : Nat)
  | erase
  deriving DecidableEq, Repr

/-- The Setup Block. -/
structure Setup where
  working : Settings
  fault : SetupFault
  owed : Owed
  /-- validation has ended (R24) -/
  validated : Bool
  deriving DecidableEq, Repr

/-- The Rest Controller. A timer `none` is stopped; the timers count ms. -/
structure Rest where
  count : Nat
  sense : Option Timer
  forced : Option Timer
  longLows : Nat
  window : Option Timer
  waking : Bool
  deriving DecidableEq, Repr

end Sys2Proof.Machine

namespace Sys2Proof.Machine

/-- The station. -/
structure State where
  powered : Bool
  pins : Pins
  line : Line
  membership : Membership
  sequencer : Sequencer
  monitors : Monitors
  ring : List Pass
  engine : Engine
  staging : Staging
  store : Store
  arrays : Arrays
  programmer : Programmer
  orders : Orders
  lock : Lock
  setup : Setup
  rest : Rest
  /-- the commands waiting, first in, first out -/
  pending : List Instr
  deriving DecidableEq, Repr

/-- The station right after a start, with its memory as new (log entries 7 and 8). -/
def State.reset : State where
  powered := true
  pins := { straps := 0, alertLow := false, alertPulse := none, faultLow := false }
  line :=
    { align := .seeking, phase := .q1, phaseTime := 0, position := 0, search := ⟨false, none⟩, silence := none,
      heldLow := false, backoff := none, round := none, burstPoints := 0, count := 0, detector := .idle, lowTime := 0
      pattern := none }
  membership :=
    { state := .starting, number := 0, cause := .none, syncLosses := 0, rollTimer := 0,
      roster := Vector.replicate 31 ⟨false, 0⟩ }
  sequencer :=
    { converter := .idle, elapsed := 0, pass := none, pointer := 0, repetition := none,
      latest := Vector.replicate 10 none, baselines := [] }
  monitors := { inputs := Vector.replicate 8 ⟨0, true, false⟩, alertPending := false }
  ring := []
  engine :=
    { state := .idle, next := 1, exhausted := false, missed := 0, firstMissed := 0, due := false, primary := 0,
      captured := 0, remaining := 0, merges := [], overflow := false, cut := false }
  staging := { slot0 := .empty, slot1 := .empty, handOver := [] }
  store :=
    { bank0 := ⟨.fresh, false, []⟩, bank1 := ⟨.fresh, false, []⟩, openBank := none, appendPoint := 1, full := false,
      unread := 0, voidQueue := [], stillBad := false, scanned := false, scan := Scan.first }
  arrays := { bank0 := [], bank1 := [], setup := [] }
  programmer := { op := .idle, elapsed := 0, commit := none, pulses := [], marks := [] }
  orders :=
    { outbox := none, replaced := false, awaited := none, stream := none, read := .none, openTimer := 0,
      holding := 0xFFFF, pulseCount := 0, pulseIndex := none }
  lock := .locked
  setup := { working := defaultSettings openKey, fault := .none, owed := .none, validated := false }
  rest := { count := 0, sense := none, forced := none, longLows := 0, window := none, waking := false }
  pending := []

end Sys2Proof.Machine
end

