-- ==== Sys2Proof/Machine/Ops.lean ====
section
/-!
DEFINITION. The named operations over the state: the non-volatile arrays (R113), the blocks' setters, and the form every
command takes.
-/

namespace Sys2Proof.Machine

/-! ### Non-volatile arrays -/

/-- The value an erased word reads (R113). -/
def erasedWord : Word := 0xFFFF

/-- A read of one word (R113). -/
def nvRead : Nv → Nat → Word
  | [], _ => erasedWord
  | (b, w) :: m, a => if b = a then w else nvRead m a

/-- Sets the value of a word, keeping the list's canonical form. -/
def nvWrite : Nv → Nat → Word → Nv
  | [], a, v => if v = erasedWord then [] else [(a, v)]
  | (b, w) :: m, a, v =>
    if a < b then (if v = erasedWord then (b, w) :: m else (a, v) :: (b, w) :: m)
    else if a = b then (if v = erasedWord then m else (a, v) :: m)
    else (b, w) :: nvWrite m a v

/-- The word after a program of `value` that fails to clear the bits of `missed`: a bit that held 0 stays 0, and no bit
not written 0 is cleared (R113, R171). -/
def programmedWord (old value missed : Word) : Word := old &&& (value ||| missed)

/-- A program of one word of an array of `size` words (R113); a word the array does not have is not written. -/
def nvProgram (size : Nat) (m : Nv) (a : Nat) (value missed : Word) : Nv :=
  if a < size then nvWrite m a (programmedWord (nvRead m a) value missed) else m

/-- The mask listed for an address; none listed is empty. -/
def maskAt : WordMasks → Nat → Word
  | [], _ => 0
  | (b, w) :: m, a => if b = a then w else maskAt m a

/-- An erase of the whole array that fails to set the zero bits of `unset` (R113, R115, R173). -/
def nvErase (m : Nv) (unset : WordMasks) : Nv :=
  m.filterMap fun c =>
    let w := c.2 ||| ~~~(maskAt unset c.1)
    if w = erasedWord then none else some (c.1, w)

/-- The canonical form: addresses strictly rising and below `size`, no word that reads as an unlisted one. -/
def nvWf (size : Nat) (m : Nv) : Bool :=
  decide ((m.map Prod.fst).Pairwise (· < ·)) && m.all (fun c => decide (c.1 < size) && c.2 != erasedWord)

/-- The array of a bank. -/
def Arrays.bank (m : Arrays) : BankId → Nv
  | .bank0 => m.bank0
  | .bank1 => m.bank1

/-- Sets the array of a bank. -/
def Arrays.setBank (m : Arrays) (b : BankId) (v : Nv) : Arrays :=
  match b with
  | .bank0 => { m with bank0 := v }
  | .bank1 => { m with bank1 := v }

/-! ### The blocks of the state -/

def State.setPowered (s : State) (v : Bool) : State := { s with powered := v }
def State.setPins (s : State) (v : Pins) : State := { s with pins := v }
def State.setLine (s : State) (v : Line) : State := { s with line := v }
def State.setMembership (s : State) (v : Membership) : State := { s with membership := v }
def State.setSequencer (s : State) (v : Sequencer) : State := { s with sequencer := v }
def State.setMonitors (s : State) (v : Monitors) : State := { s with monitors := v }
def State.setRing (s : State) (v : List Pass) : State := { s with ring := v }
def State.setEngine (s : State) (v : Engine) : State := { s with engine := v }
def State.setStaging (s : State) (v : Staging) : State := { s with staging := v }
def State.setStore (s : State) (v : Store) : State := { s with store := v }
def State.setArrays (s : State) (v : Arrays) : State := { s with arrays := v }
def State.setProgrammer (s : State) (v : Programmer) : State := { s with programmer := v }
def State.setOrders (s : State) (v : Orders) : State := { s with orders := v }
def State.setLock (s : State) (v : Lock) : State := { s with lock := v }
def State.setSetup (s : State) (v : Setup) : State := { s with setup := v }
def State.setRest (s : State) (v : Rest) : State := { s with rest := v }

/-- The settings in force (R165). -/
def State.settings (s : State) : Settings := s.setup.working

/-- Whether the station is aligned with the line: JOINING or MEMBER (R45). -/
def State.onLine (s : State) : Bool :=
  s.membership.state == .joining || s.membership.state == .member

/-! ### Slots and banks -/

/-- The other bank. -/
def BankId.other : BankId → BankId
  | .bank0 => .bank1
  | .bank1 => .bank0

/-- What the store knows of a bank. -/
def Store.bank (s : Store) : BankId → Bank
  | .bank0 => s.bank0
  | .bank1 => s.bank1

/-- Sets what the store knows of a bank. -/
def Store.setBank (s : Store) (b : BankId) (v : Bank) : Store :=
  match b with
  | .bank0 => { s with bank0 := v }
  | .bank1 => { s with bank1 := v }

/-- A staging slot by name. -/
def Staging.slot (q : Staging) : SlotId → Slot
  | .slot0 => q.slot0
  | .slot1 => q.slot1

/-- Sets a staging slot. -/
def Staging.setSlot (q : Staging) (i : SlotId) (v : Slot) : Staging :=
  match i with
  | .slot0 => { q with slot0 := v }
  | .slot1 => { q with slot1 := v }

end Sys2Proof.Machine
end

