-- ==== Sys2Proof/Machine/Flags.lean ====
section
/-!
DEFINITION. Every flag the station forms from its state: the FAULT pin (R43), work waiting (R131), readiness to rest
(R176), the banner flags it pulls (R74, R177), the want of a ROLL round (R37), and the form of a command.
-/

namespace Sys2Proof.Machine

/-- The conditions of the FAULT pin (R43). A bank that was BAD as its erase began counts until the erase verifies (log
entry 30). -/
def State.faultCondition (s : State) : Bool :=
  s.membership.state == .withdrawn || s.store.bank0.state == .bad || s.store.bank1.state == .bad || s.store.stillBad
    || s.setup.fault != .none

/-- The FAULT pin follows its conditions (R43). -/
def State.refreshFault (s : State) : State :=
  s.setPins { s.pins with faultLow := s.faultCondition }

/-- A command's effect on a station that has power; without power nothing happens (log entry 15). -/
def act (s : State) (f : State → State) : Host.Outcome State Fault Refusal :=
  .next (if s.powered then (f s).refreshFault else s)

/-- The slot is EMPTY. -/
def Slot.isEmpty : Slot → Bool
  | .empty => true
  | .filling _ | .ready _ _ | .committing _ _ => false

/-- The slot is READY. -/
def Slot.isReady : Slot → Bool
  | .ready _ _ => true
  | .empty | .filling _ | .committing _ _ => false

/-- At least one slot is EMPTY (R77). -/
def Staging.hasEmpty (q : Staging) : Bool := q.slot0.isEmpty || q.slot1.isEmpty

/-- Both slots are EMPTY (R176). -/
def Staging.allEmpty (q : Staging) : Bool := q.slot0.isEmpty && q.slot1.isEmpty

/-- A READY slot stands in the staging queue (R131). -/
def Staging.hasReady (q : Staging) : Bool := q.slot0.isReady || q.slot1.isReady

/-- The programmer has work waiting (R131). -/
def State.workWaiting (s : State) : Bool :=
  s.programmer.commit.isSome || !s.programmer.pulses.isEmpty || !s.programmer.marks.isEmpty
    || !s.store.voidQueue.isEmpty || s.store.bank0.erasePending || s.store.bank1.erasePending || s.staging.hasReady

/-- The programmer is idle with no pending work (R133). -/
def State.programmerQuiet (s : State) : Bool := s.programmer.op == .idle && !s.workWaiting

/-- A bank erase of either bank is in progress (R131). -/
def State.bankErasing (s : State) : Bool :=
  match s.programmer.op with
  | .bankErase _ _ => true
  | .idle | .word _ | .pulse _ => false

/-- Ready to rest (R176). -/
def State.readyToRest (s : State) : Bool :=
  s.settings.dormancyAllowed && s.engine.state == .idle && !s.engine.due && !s.monitors.alertPending
    && s.staging.allEmpty && s.programmerQuiet && s.orders.outbox.isNone && s.orders.stream.isNone
    && s.lock == .locked

/-- The station pulls ALERT in the round that begins (R74). -/
def State.pullsAlert (s : State) : Bool :=
  s.membership.state == .member && s.engine.state == .idle && s.monitors.alertPending && !s.engine.due

/-- The station pulls STAY in the round that begins (R177). -/
def State.pullsStay (s : State) : Bool :=
  match s.membership.state with
  | .member => !s.readyToRest
  | .joining => true
  | .starting | .seeking | .dormant | .withdrawn => false

/-- The station wants to offer ROLL: a member whose roll timer stands at the roll period (R37). -/
def State.wantsRoll (s : State) : Bool :=
  s.membership.state == .member && s.membership.rollTimer == s.settings.rollPeriod

/-- The station claims a place in an INCIDENT round it offers (R77). -/
def State.claimsPlace (s : State) : Bool :=
  s.engine.state == .idle && s.staging.hasEmpty && !s.engine.exhausted

end Sys2Proof.Machine
end

