-- ==== Sys2Proof/Machine/Ring.lean ====
section
/-!
DEFINITION. The Pre-Trigger Ring (chapter 5): taking passes, restating their counts, and the copy into a record.
-/

namespace Sys2Proof.Machine

/-- The ring takes a pass: appended while the fill is below P, the oldest evicted at P, discarded when P is 0 (R65). -/
def ringAppend (capacity : Nat) (ring : List Pass) (p : Pass) : List Pass :=
  if capacity = 0 then ring
  else if ring.length < capacity then ring ++ [p]
  else ring.drop 1 ++ [p]

/-- The counts restated so that the tail stands one below `v`, the count of the next round (R66). -/
def ringRestate (v : RoundCount) (ring : List Pass) : List Pass :=
  ring.mapIdx fun i p => { p with count := v - BitVec.ofNat 24 (ring.length - i) }

/-- The copy of the newest `q` entries, oldest first, with their ages (R68). -/
def ringCopy (q : Nat) (ring : List Pass) : List CopiedPass :=
  (ring.drop (ring.length - q)).mapIdx fun i p =>
    { segment := p.segment, short := p.short, age := min q ring.length - i, samples := p.samples }

end Sys2Proof.Machine
end

