-- ==== Sys2Proof/Machine/Acquisition.lean ====
section
/-!
DEFINITION. The Acquisition Sequencer and the window monitors (chapter 4).
-/

namespace Sys2Proof.Machine

/-! ### Window monitors -/

/-- A sample is inside a window (R57). -/
def Window.inside (w : Window) (x : Sample) : Bool := decide (w.low ≤ x) && decide (x ≤ w.high)

/-- The monitor judges a sample: the monitor afterwards, and whether the input trips (R58, R59). -/
def Monitor.judge (trip : Nat) (w : Window) (x : Sample) (m : Monitor) : Monitor × Bool :=
  if w.inside x then ({ m with count := 0, armed := true }, false)
  else if m.count < trip then
    if m.count + 1 = trip && m.armed then (⟨m.count + 1, false, true⟩, true)
    else ({ m with count := m.count + 1 }, false)
  else (m, false)

/-- A sample is submitted to the monitor of input i (R58); a trip sets alert pending (R59). -/
def submitSample (st : Settings) (i : Fin 8) (x : Sample) (ms : Monitors) : Monitors × Bool :=
  let j := (ms.inputs[i]).judge st.trip st.windows[i] x
  ({ inputs := ms.inputs.set i j.1, alertPending := ms.alertPending || j.2 }, j.2)

/-- The trip set emptied and alert pending cleared; counts and armed flags stay (R60). -/
def clearTrips (ms : Monitors) : Monitors :=
  { inputs := ms.inputs.map fun m => { m with tripped := false }, alertPending := false }

/-- Every trip count 0; armed flags, trip set and alert pending stay (R61). -/
def clearTripCounts (ms : Monitors) : Monitors :=
  { ms with inputs := ms.inputs.map fun m => { m with count := 0 } }

/-- The lowest input in the trip set (R63). -/
def lowestTripped (ms : Monitors) : Option Nat := ms.inputs.toList.findIdx? fun m => m.tripped

/-! ### Segments and passes -/

/-- The entries of segment j of the survey list (R46). -/
def segmentEntries (st : Settings) (j : Nat) : List Input := (st.survey.drop (j * st.segment)).take st.segment

/-- The number of segments, N/S rounded up (R46). -/
def segmentCount (st : Settings) : Nat := (st.survey.length + st.segment - 1) / st.segment

/-- The input of the next survey entry of the pass under way, if any is left (R47). -/
def nextEntry (st : Settings) (p : PassUnderWay) : Option Input := (segmentEntries st p.segment)[p.samples.length]?

/-- The survey takes the free converter for its next entry, if a segment is under way and has one (R47, R52). -/
def resumeSurvey (st : Settings) (q : Sequencer) : Sequencer :=
  match q.pass with
  | some p =>
    if (nextEntry st p).isSome then { q with converter := .survey, elapsed := 0 }
    else { q with converter := .idle, elapsed := 0 }
  | none => { q with converter := .idle, elapsed := 0 }

/-- A segment begins at a mark slot (R47). In a capture round burst point 0 comes first (R53), and a repetition still in
flight keeps the converter (R54). -/
def beginSegment (st : Settings) (captureRound : Bool) (q : Sequencer) : Sequencer :=
  let q := { q with pass := some ⟨q.pointer, []⟩ }
  if captureRound || q.repetition.isSome then q else resumeSurvey st q

/-- A survey conversion of input i completes (R47, R50). -/
def surveySample (st : Settings) (i : Input) (p : PassUnderWay) (x : Sample) (q : Sequencer) : Sequencer :=
  resumeSurvey st
    { q with pass := some { p with samples := p.samples ++ [x] }, latest := q.latest.set i (some x) }

/-- The pass a segment ends with, at the round end of the round of a count (R48, R49). -/
def finishedPass (st : Settings) (count : RoundCount) (p : PassUnderWay) : Pass :=
  { count := count, segment := p.segment, short := decide (p.samples.length < (segmentEntries st p.segment).length),
    samples := p.samples }

/-- The segment pointer moves on (R48). -/
def advancePointer (st : Settings) (j : Nat) : Nat := if j + 1 = segmentCount st then 0 else j + 1

/-- The segment ends at a round end: a survey conversion in flight is abandoned and the pointer advances (R48). -/
def endSegment (st : Settings) (q : Sequencer) : Sequencer :=
  { q with
    pass := none
    pointer := advancePointer st q.pointer
    converter := if q.converter = .survey then .idle else q.converter }

/-- What the sequencer clears on leaving JOINING or MEMBER (R45). -/
def sequencerDepart (_q : Sequencer) : Sequencer :=
  { converter := .idle, elapsed := 0, pass := none, pointer := 0, repetition := none,
    latest := Vector.replicate 10 none, baselines := [] }

/-- At a round end the pass of a segment under way goes to the ring (R48, R65). -/
def State.completePass (s : State) : State :=
  match s.sequencer.pass with
  | none => s
  | some p =>
    (s.setRing (ringAppend s.settings.ringCapacity s.ring (finishedPass s.settings s.line.count p))).setSequencer
      (endSegment s.settings s.sequencer)

/-! ### Bursts -/

/-- The slot of burst point d (R51). -/
def burstSlot (density d : Nat) : Nat := 38 * d / density

/-- The start of Q1 of a slot is not past: the station's slot timing is before it or at it (R51). -/
def Line.ahead (l : Line) (slot : Nat) : Bool :=
  decide (l.position.val < slot) || (l.position.val == slot && l.phase == .q1 && l.phaseTime == 0)

/-- The burst point of a capture round that comes next, if one is left: of those not taken, the first whose slot's start is
not past (R51). -/
def Line.nextBurstPoint (l : Line) (density : Nat) : Option Nat :=
  (List.range density).find? fun d => decide (l.burstPoints ≤ d) && l.ahead (burstSlot density d)

/-- The line at burst point d: at the start of Q1 of its slot, the point taken (R51). -/
def Line.atPoint (l : Line) (density d : Nat) : Line :=
  { l with position := Fin.ofNat 38 (burstSlot density d), phase := .q1, phaseTime := 0, burstPoints := d + 1 }

/-- One baseline per burst entry, from the latest values (R55). -/
def fixBaselines (st : Settings) (q : Sequencer) : List (Option Sample) := st.burst.map fun i => q.latest[i]

/-- The value handed on for a burst sample: the delta, or the sample itself on a raw baseline (R56, R188). -/
def burstValue (baseline : Option Sample) (x : Sample) : Word :=
  match baseline with
  | some b => x.setWidth 16 - b.setWidth 16
  | none => x.setWidth 16

/-- The word of an absent burst value (R54). -/
def absentWord : Word := 0x8000

/-- The word of a baseline; raw is FFFFh (R55). -/
def baselineWord : Option Sample → Word
  | some b => b.setWidth 16
  | none => 0xFFFF

/-- The input of the burst conversion in flight. -/
def burstInput (st : Settings) (r : Repetition) : Input := st.burst.getD r.e 0

/-- The input the converter is on, if any (R44). -/
def convertedInput (st : Settings) (q : Sequencer) : Option Input :=
  match q.converter with
  | .idle => none
  | .survey => q.pass.bind (nextEntry st)
  | .burst => q.repetition.map (burstInput st)
  | .sense => some (st.senseInput.castLE (by decide))

end Sys2Proof.Machine
end

