-- ==== Sys2Proof/Machine/Operands.lean ====
section
/-!
DEFINITION. Round bodies and what the line makes of the station's own offers: the kind codes and body layouts of R185, the
check code of R186, and the arbitration of R7, R9 and R10 between the bits the station sends and the bits it samples.
-/

namespace Sys2Proof.Machine

/-- The bits of a field in the order they go on the line, most significant first (section 1.6). -/
def lineBits {n : Nat} (v : BitVec n) : List Bool := (List.range n).map v.getMsbD

/-! ### Check codes (R186, R188) -/

/-- One bit of the CRC-8 procedure: shift, and invert bits 2, 1 and 0 when the top bit differs (R186). -/
def crc8Bit (r : BitVec 8) (b : Bool) : BitVec 8 :=
  if r.msb = b then r <<< 1 else (r <<< 1) ^^^ 0x07#8

/-- The check over covered bits (R11, R186). -/
def crc8 (covered : List Bool) : BitVec 8 := covered.foldl crc8Bit 0

/-- One bit of the CRC-16 procedure (R188). -/
def crc16Bit (r : Word) (b : Bool) : Word :=
  if r.msb = b then r <<< 1 else (r <<< 1) ^^^ 0x1021#16

/-- The CRC-16 over words, each from bit 15 to bit 0 (R188). -/
def crc16 (words : List Word) : Word :=
  words.foldl (fun r w => (lineBits w).foldl crc16Bit r) 0xFFFF#16

/-! ### Kinds and bodies (R185) -/

/-- The kind codes. -/
def kindCode : Kind → BitVec 3
  | .incident => 0 | .probe => 1 | .roll => 2 | .order => 3
  | .reply => 4 | .epoch => 5 | .unassigned => 6 | .quiet => 7

/-- The status codes of REPLY. -/
def statusCode : Status → BitVec 3
  | .data => 0 | .last => 1 | .done => 2 | .pending => 3
  | .locked => 4 | .absent => 5 | .busy => 6 | .refused => 7

/-- The order codes (section 9.1). -/
inductive OrderCode where
  | fetch | mark | unlock | relock | load | program | erase | restart
  deriving DecidableEq, Repr

/-- The three bits of an order code. -/
def orderBits : OrderCode → BitVec 3
  | .fetch => 0 | .mark => 1 | .unlock => 2 | .relock => 3
  | .load => 4 | .program => 5 | .erase => 6 | .restart => 7

/-- The order a code names; every code names one. -/
def orderOfBits (c : BitVec 3) : OrderCode :=
  match c.toNat with
  | 0 => .fetch | 1 => .mark | 2 => .unlock | 3 => .relock
  | 4 => .load | 5 => .program | 6 => .erase | _ => .restart

/-- INCIDENT b0 to b15, complemented (R79). -/
def incidentNumber (b : Body) : Word := ~~~(b.extractLsb' 16 16)
/-- INCIDENT b16 to b19. -/
def incidentPreDepth (b : Body) : BitVec 4 := b.extractLsb' 12 4
/-- INCIDENT b20 to b23, complemented: L′ - 1. -/
def incidentPostCode (b : Body) : BitVec 4 := ~~~(b.extractLsb' 8 4)
/-- INCIDENT b24 to b31. -/
def incidentOrigin (b : Body) : BitVec 8 := b.extractLsb' 0 8
/-- PROBE b0 to b4. -/
def probeNumber (b : Body) : BitVec 5 := b.extractLsb' 27 5
/-- PROBE b29, DEFEND; pulled reads 0. -/
def defendPulled (b : Body) : Bool := !b.getMsbD 29
/-- ROLL b_k; pulled reads 0. -/
def rollPulled (b : Body) (k : Nat) : Bool := !b.getMsbD k
/-- ORDER b0 to b4. -/
def orderTarget (b : Body) : BitVec 5 := b.extractLsb' 27 5
/-- ORDER b5 to b7. -/
def orderCode (b : Body) : OrderCode := orderOfBits (b.extractLsb' 24 3)
/-- ORDER b8 to b23. -/
def orderArgument (b : Body) : Word := b.extractLsb' 8 16
/-- EPOCH b0 to b23. -/
def epochValue (b : Body) : RoundCount := b.extractLsb' 8 24

/-- Whether the check of a body of a kind is good (R11, R186); collective and uninterpreted bodies carry none. -/
def checkGood (k : Kind) (b : Body) : Bool :=
  match k with
  | .probe => crc8 (lineBits (b.extractLsb' 11 21)) == b.extractLsb' 3 8
  | .order | .reply | .epoch => crc8 (lineBits (b.extractLsb' 8 24)) == b.extractLsb' 0 8
  | .incident | .roll | .unassigned | .quiet => true

/-- A body of 24 covered bits and its check (ORDER, REPLY, EPOCH). -/
def framedBody (covered : BitVec 24) : Body := covered ++ crc8 (lineBits covered)

/-- The ORDER body of a target, a code and an argument. -/
def orderBody (target : BitVec 5) (code : OrderCode) (argument : Word) : Body :=
  framedBody (target ++ orderBits code ++ argument)

/-- The REPLY body a station offers (R142). -/
def replyBody (number : BitVec 5) (r : Reply) : Body := framedBody (number ++ statusCode r.status ++ r.value)

/-- PROBE b0 to b28 as a joiner offers them (R26). -/
def probeBits (number : BitVec 5) (code : BitVec 16) : BitVec 29 :=
  let covered : BitVec 21 := number ++ code
  covered ++ crc8 (lineBits covered)

/-- The INCIDENT body of four offers; max-fields go complemented (R10, R77). -/
def incidentBody (f : IncidentOffer) : Body := ~~~f.number ++ f.preDepth ++ ~~~f.postCode ++ f.origin

/-- A member's ROLL contribution: 0 in the slots it pulls, 1 elsewhere (R38). -/
def rollBits (number : BitVec 5) (storeFull : Bool) : Body :=
  ~~~((if number.toNat < 31 then 0x80000000#32 >>> number.toNat else 0) ||| (if storeFull then 1#32 else 0))

/-! ### Contests (R7, R9, R10, R12) -/

/-- What comes of sending bits against the line: every bit read back, a 1 sent that sampled 0 at a slot, or a 0 sent that
sampled 1, which is the driver fault of R12. -/
inductive Contest where
  | won
  | withdrew (slot : Nat)
  | driverFault
  deriving DecidableEq, Repr

/-- Sends bits against the line's from slot `k` on, until the first that does not read back. -/
def contend (k : Nat) : List Bool → List Bool → Contest
  | own :: owns, line :: lines =>
    if own = line then contend (k + 1) owns lines
    else if own then .withdrew k
    else .driverFault
  | _, _ => .won

/-- The outcome of the station's own kind offer, as the round-end event hands it over (R13). -/
inductive OfferOutcome where
  | none | lostKind | won
  | withdrew (slot : Nat)
  deriving DecidableEq, Repr

/-- The kind an offer names. -/
def offeredKind : KindOffer → Option Kind
  | .none => Option.none
  | .incident _ => some .incident
  | .probe _ => some .probe
  | .roll => some .roll
  | .reply _ => some .reply

/-- A pulled banner flag that reads released (R12). -/
def bannerFault (o : Offers) (r : Round) : Bool :=
  (o.banner.alert && !r.banner.alert) || (o.banner.stay && !r.banner.stay)

/-- One min-field of a collective body as the station sends it against the line (R10). -/
def fieldFault {n : Nat} (own line : BitVec n) : Bool :=
  contend 0 (lineBits own) (lineBits line) == .driverFault

/-- A 0 of the station's collective contributions that reads 1 (R8, R10, R12, R27, R38). -/
def contributionFault (number : BitVec 5) (o : Offers) (r : Round) : Bool :=
  match r.kind with
  | .incident =>
    match o.kind with
    | .incident f =>
      fieldFault (~~~f.number) (r.body.extractLsb' 16 16) || fieldFault f.preDepth (r.body.extractLsb' 12 4)
        || fieldFault (~~~f.postCode) (r.body.extractLsb' 8 4) || fieldFault f.origin (r.body.extractLsb' 0 8)
    | .none | .probe _ | .roll | .reply _ => false
  | .probe => o.member && probeNumber r.body == number && !defendPulled r.body
  | .roll => o.member && (~~~(rollBits number o.storeFull) &&& r.body) != 0
  | .order | .reply | .epoch | .unassigned | .quiet => false

/-- The body contest of a station whose kind won (R9); collective kinds have no body contest. -/
def bodyContest (number : BitVec 5) (k : KindOffer) (body : Body) : Contest :=
  match k with
  | .probe code => contend 0 (lineBits (probeBits number code)) (lineBits (body.extractLsb' 3 29))
  | .reply rep => contend 0 (lineBits (replyBody number rep)) (lineBits body)
  | .none | .incident _ | .roll => .won

/-- What the round made of the station's offer; `none` is a driver fault: a 0 it sent was sampled as 1 (R7, R9, R12). -/
def settleOffer (number : BitVec 5) (o : Offers) (r : Round) : Option OfferOutcome :=
  if bannerFault o r || contributionFault number o r then none
  else
    match offeredKind o.kind with
    | none => some .none
    | some k =>
      match contend 0 (lineBits (kindCode k)) (lineBits (kindCode r.kind)) with
      | .driverFault => none
      | .withdrew _ => some .lostKind
      | .won =>
        match bodyContest number o.kind r.body with
        | .driverFault => none
        | .withdrew k => some (.withdrew k)
        | .won => some .won

end Sys2Proof.Machine
end

