-- ==== Sys2Proof/Machine/Staging.lean ====
section
/-!
DEFINITION. The Staging Queue (chapter 7): slots, the record under construction, and the record image of R103 with the
layout of R187 and R188.
-/

namespace Sys2Proof.Machine

/-- The slot a capture opens: slot 0 if it is EMPTY, else slot 1 if it is (R97). -/
def Staging.toOpen (q : Staging) : Option SlotId :=
  match q.slot0, q.slot1 with
  | .empty, _ => some .slot0
  | _, .empty => some .slot1
  | _, _ => none

/-- The FILLING slot, with its construction. -/
def Staging.fillingSlot (q : Staging) : Option (SlotId × Construction) :=
  match q.slot0, q.slot1 with
  | .filling c, _ => some (.slot0, c)
  | _, .filling c => some (.slot1, c)
  | _, _ => none

/-- The FILLING slot's construction changed; without one nothing happens (R102). -/
def Staging.updateFilling (q : Staging) (f : Construction → Construction) : Staging :=
  match q.fillingSlot with
  | some (i, c) => q.setSlot i (.filling (f c))
  | none => q

/-- An abandoned capture's slot is emptied (R106). -/
def Staging.abandon (q : Staging) : Staging :=
  match q.fillingSlot with
  | some (i, _) => q.setSlot i .empty
  | none => q

/-- The primary number a slot holds, unless EMPTY (R112). -/
def Slot.holds : Slot → Option Word
  | .empty => none
  | .filling c => some c.primary
  | .ready p _ => some p
  | .committing p _ => some p

/-- Number n is held in staging (R112). -/
def Staging.held (q : Staging) (n : Word) : Bool := q.slot0.holds == some n || q.slot1.holds == some n

/-- The image of a READY or COMMITTING slot. -/
def Slot.image : Slot → List Word
  | .ready _ w => w
  | .committing _ w => w
  | .empty | .filling _ => []

/-! ### The burst part -/

/-- A block of D × B absent values joins the burst part (R101). -/
def addBlock (c : Construction) : Construction :=
  { c with blocks := c.blocks ++ [List.replicate (c.density * c.burstLength) absentWord] }

/-- A burst value written into its position, if its block stands (R101, R102). -/
def placeBurst (r : Repetition) (v : Word) (c : Construction) : Construction :=
  if c.primary = r.primary then
    { c with blocks := c.blocks.modify r.round fun b => b.set (r.d * c.burstLength + r.e) v }
  else c

/-! ### The record image -/

/-- What the Incident Engine hands a slot at the capture end (R103). -/
structure Closing where
  rounds : Nat
  merges : List Word
  overflow : Bool
  cut : Bool
  deriving DecidableEq, Repr

/-- The D code (R187). -/
def densityCode (d : Nat) : BitVec 2 := if d = 1 then 0 else if d = 2 then 1 else 2

/-- Bits, first most significant, packed into the top of a word (R187, R189). -/
def packBits (bs : List Bool) : Word :=
  (List.range 16).foldl (fun w k => (w <<< 1) ||| (if bs.getD k false then 1 else 0)) 0

/-- Roster stations 0 to 15: station k in bit 15 - k (R187). -/
def rosterWord0 (present : List Bool) : Word := packBits (present.take 16)

/-- Roster stations 16 to 30: station 16 + j in bit 15 - j, bit 0 at 0 (R187). -/
def rosterWord1 (present : List Bool) : Word := packBits ((present.drop 16).take 15)

/-- One bit of a flag: set is 1 (R188). -/
def flagBit (b : Bool) : BitVec 1 := BitVec.ofBool b

/-- A pass header (R187). -/
def passHeader (p : CopiedPass) : Word :=
  BitVec.ofNat 4 p.segment ++ BitVec.ofNat 4 p.samples.length ++ flagBit p.short ++ BitVec.ofNat 7 p.age

/-- A pass of the pre part: its header, then its samples (R103, R188). -/
def passWords (p : CopiedPass) : List Word := passHeader p :: p.samples.map fun x => x.setWidth 16

/-- The header words from the primary number to the first missed number (R103, R187). -/
def headerWords (c : Construction) (e : Closing) : List Word :=
  [ c.primary,
    c.origin ++ c.preDepth ++ c.postCode,
    c.station ++ BitVec.ofNat 2 (c.burstLength - 1) ++ densityCode c.density ++ BitVec.ofNat 5 (e.rounds - 1)
      ++ flagBit e.overflow ++ flagBit e.cut,
    c.stamp.extractLsb' 8 16,
    c.stamp.extractLsb' 0 8 ++ BitVec.ofNat 3 e.merges.length ++ BitVec.ofNat 4 c.missed
      ++ flagBit (c.pre.any fun p => p.short),
    rosterWord0 c.roster.toList,
    rosterWord1 c.roster.toList,
    c.firstMissed ]

/-- The words between the length word and the check (R103). -/
def recordBody (c : Construction) (e : Closing) : List Word :=
  headerWords c e ++ e.merges ++ (c.pre.map passWords).flatten ++ c.blocks.flatten ++ c.baselines.map baselineWord

/-- The record image: state word FREE, length, body, check over length and body (R103, R104, R188). -/
def recordImage (c : Construction) (e : Closing) : List Word :=
  let covered := BitVec.ofNat 16 ((recordBody c e).length + 3) :: recordBody c e
  erasedWord :: covered ++ [crc16 covered]

/-- The FILLING slot lays out its image, becomes READY and joins the hand-over order (R103). -/
def Staging.finish (q : Staging) (e : Closing) : Staging :=
  match q.fillingSlot with
  | some (i, c) => { q.setSlot i (.ready c.primary (recordImage c e)) with handOver := q.handOver ++ [i] }
  | none => q

/-- The slot at the head of the hand-over order, with its number and image (R108). -/
def Staging.head (q : Staging) : Option (SlotId × Word × List Word) :=
  match q.handOver with
  | [] => none
  | i :: _ =>
    match q.slot i with
    | .ready p w => some (i, p, w)
    | .empty | .filling _ | .committing _ _ => none

/-- The programmer takes the head slot, which becomes COMMITTING (R108). -/
def Staging.takeHead (q : Staging) : Staging :=
  match q.head with
  | some (i, p, w) => { q.setSlot i (.committing p w) with handOver := q.handOver.drop 1 }
  | none => q

end Sys2Proof.Machine
end

