-- ==== Sys2Proof/Machine/Incident.lean ====
section
/-!
DEFINITION. The Incident Engine (chapter 6): what it offers, how it settles an INCIDENT round, and how a capture starts,
counts, merges, extends, ends and is abandoned.
-/

namespace Sys2Proof.Machine

/-! ### Offers -/

/-- The field offers of a station offering INCIDENT (R77). -/
def State.incidentOffer (s : State) : IncidentOffer where
  number := s.engine.next
  preDepth := if s.claimsPlace then BitVec.ofNat 4 s.ring.length else 15
  postCode := BitVec.ofNat 4 (s.settings.postLength - 1)
  origin :=
    match s.engine.state, lowestTripped s.monitors with
    | .idle, some i => BitVec.ofNat 8 (s.membership.number.toNat * 8 + i)
    | _, _ => 255

/-! ### Numbers -/

/-- NEXT after an INCIDENT round that agreed on A (R80). -/
def nextAfter (next a : Word) : Word := BitVec.ofNat 16 (min (max next.toNat (a.toNat + 1)) 65535)

/-- One missed incident (R84). -/
def countMiss (a : Word) (e : Engine) : Engine :=
  { e with
    missed := if e.missed < Config.maxMissed then e.missed + 1 else e.missed
    firstMissed := if e.firstMissed = 0 then a else e.firstMissed }

/-! ### The capture in progress -/

/-- A capture round has ended (R85). -/
def countCaptureRound (e : Engine) : Engine :=
  { e with captured := e.captured + 1, remaining := e.remaining - 1 }

/-- The incident agreed as A is merged into the capture (R88). -/
def mergeIncident (a : Word) (e : Engine) : Engine :=
  if a = 0 ∨ a = 65535 then e
  else if e.merges.length < Config.maxMerges then { e with merges := e.merges ++ [a] }
  else { e with overflow := true }

/-- The capture is extended to the agreed post length (R89). -/
def extendCapture (postLength : Nat) (e : Engine) : Engine :=
  { e with
    remaining := min (max e.remaining postLength) (Config.maxCaptureRounds - e.captured)
    cut := e.cut || decide (Config.maxCaptureRounds - e.captured < postLength) }

/-- The values a capture starts on (R79): A, Q, L′ - 1 and the origin. -/
structure Agreement where
  number : Word
  preDepth : BitVec 4
  postCode : BitVec 4
  origin : BitVec 8
  deriving DecidableEq, Repr

/-- The four values read from an INCIDENT body (R79). -/
def readAgreement (b : Body) : Agreement :=
  ⟨incidentNumber b, incidentPreDepth b, incidentPostCode b, incidentOrigin b⟩

/-- The opening header, pre part and baselines handed to the slot at a capture start (R83, R98, R99, R100). -/
def State.openConstruction (s : State) (g : Agreement) (stamp : RoundCount) : Construction where
  primary := g.number
  origin := g.origin
  preDepth := g.preDepth
  postCode := g.postCode
  station := s.membership.number
  burstLength := s.settings.burst.length
  density := s.settings.density
  stamp := stamp
  roster := s.membership.roster.map fun r => r.present
  missed := s.engine.missed
  firstMissed := s.engine.firstMissed
  pre := ringCopy g.preDepth.toNat s.ring
  baselines := fixBaselines s.settings s.sequencer
  blocks := []

/-- The engine at a capture start (R83). -/
def engineCapturing (g : Agreement) (e : Engine) : Engine :=
  { e with
    state := .capturing, primary := g.number, captured := 0, remaining := g.postCode.toNat + 1, merges := []
    overflow := false, cut := false, missed := 0, firstMissed := 0 }

/-- A capture starts in slot i (R83). -/
def State.startCapture (s : State) (g : Agreement) (stamp : RoundCount) (i : SlotId) : State :=
  ((s.setStaging (s.staging.setSlot i (.filling (s.openConstruction g stamp)))).setEngine
      (engineCapturing g s.engine)).setSequencer
    { s.sequencer with baselines := fixBaselines s.settings s.sequencer }

/-- The closing fields of the header (R86). -/
def Engine.closing (e : Engine) : Closing := ⟨e.captured, e.merges, e.overflow, e.cut⟩

/-- The capture ends: the slot completes its record, the engine is IDLE, the baselines are cleared (R86). -/
def State.endCapture (s : State) : State :=
  ((s.setStaging (s.staging.finish s.engine.closing)).setEngine { s.engine with state := .idle }).setSequencer
    { s.sequencer with baselines := [] }

/-- The engine after a capture is abandoned: its primary number is one missed incident (R91). -/
def engineAbandoned (e : Engine) : Engine :=
  { countMiss e.primary e with
    state := .idle, captured := 0, remaining := 0, merges := [], overflow := false, cut := false }

/-- The engine and its slot at a departure from JOINING or MEMBER (R73, R91, R106). -/
def State.engineDepart (s : State) : State :=
  match s.engine.state with
  | .capturing => (s.setStaging s.staging.abandon).setEngine { engineAbandoned s.engine with due := false }
  | .idle => s.setEngine { s.engine with due := false }

/-! ### Round ends -/

/-- An IDLE member settles an incident: exhaustion, capture start or miss (R81, R82). `claimed`: it claimed a place in
this round. A claim with no EMPTY slot left, which no run meets (R97), is a miss (log entry 20). -/
def State.settleIdle (s : State) (g : Agreement) (stamp : RoundCount) (claimed : Bool) : State :=
  if g.number = 65535 then s.setEngine { s.engine with exhausted := true }
  else if g.number ≠ 0 ∧ claimed then
    match s.staging.toOpen with
    | some i => s.startCapture g stamp i
    | none => s.setEngine (countMiss g.number s.engine)
  else s.setEngine (countMiss g.number s.engine)

/-- A CAPTURING member merges and extends (R88, R89, R90). -/
def mergeAndExtend (g : Agreement) (e : Engine) : Engine :=
  let e := extendCapture (g.postCode.toNat + 1) (mergeIncident g.number e)
  { e with exhausted := e.exhausted || g.number == 65535 }

/-- A member settles the INCIDENT round (R60, R82). -/
def State.settleIncident (s : State) (g : Agreement) (stamp : RoundCount) (claimed : Bool) : State :=
  let s := s.setMonitors (clearTrips s.monitors)
  match s.engine.state with
  | .idle => s.settleIdle g stamp claimed
  | .capturing => s.setEngine (mergeAndExtend g s.engine)

/-- The engine at a round end: NEXT (R80), the capture round's count (R85), the incident's settlement (R82) and the end of
a capture (R86). -/
def State.engineRoundEnd (s : State) (o : Offers) (r : Round) (member : Bool) (stamp : RoundCount) : State :=
  let g := readAgreement r.body
  let incident := r.kind == .incident
  let s := if incident then s.setEngine { s.engine with next := nextAfter s.engine.next g.number } else s
  let s := if o.captureRound then s.setEngine (countCaptureRound s.engine) else s
  let s := if incident && member then s.settleIncident g stamp o.claims else s
  if o.captureRound && s.engine.state == .capturing && s.engine.remaining == 0 then s.endCapture else s

/-- The ALERT pin after a round end (R93, R94). `incident`: the round was INCIDENT and the station MEMBER; `ended`: a
capture ended at this round end. -/
def pinsRoundEnd (mode : PinMode) (incident ended : Bool) (state : IncidentState) (p : Pins) : Pins :=
  match mode with
  | .pulse => if incident then { p with alertLow := true, alertPulse := some 0 } else p
  | .level => { p with alertLow := state == .capturing || (incident && !ended) }

/-- Incident due after a round end (R76). -/
def State.dueRoundEnd (s : State) (alert : Bool) : State :=
  s.setEngine { s.engine with due := alert && s.membership.state == .member }

end Sys2Proof.Machine
end

