-- ==== Sys2Proof/Machine/Timing.lean ====
section
/-!
DEFINITION. The durations the spec states, in units of 50 ns (the time of one read, R113), on the station's own timebase.
-/

namespace Sys2Proof.Machine

/-- Units of one microsecond. -/
def usUnits : Nat := 20

/-- Units of one millisecond. -/
def msUnits : Nat := 20000

/-- Units of one slot at the slot rate set (R3). -/
def slotUnits (st : Settings) : Nat := 20000000 / st.slotRate

/-- Units of one quarter (R3). -/
def quarterUnits (st : Settings) : Nat := slotUnits st / 4

/-- Units of one round (R3, R5). -/
def roundUnits (st : Settings) : Nat := Config.roundSlots * slotUnits st

/-- The sample time of an input in µs (R44). -/
def sampleTime (st : Settings) (i : Input) : Nat :=
  if h : i.val < 8 then st.sampleTimes[i.val] else 32

/-- Units of one conversion: the sample time plus 12 µs (R44). -/
def conversionUnits (st : Settings) (i : Input) : Nat := (sampleTime st i + 12) * usUnits

/-- Units of one operation of the NV Programmer (R131): one attempt of a word program 30 µs, a setup program pulse 200 µs,
a setup erase pulse 5 ms, a bank erase 45 ms with its condemn write and the check of every word (R115). -/
def operationUnits : Operation → Nat
  | .idle => 0
  | .word _ => 30 * usUnits
  | .pulse (.program _ _ _ _) => 200 * usUnits
  | .pulse (.erase _ _) => 5 * msUnits
  | .bankErase _ _ => 30 * usUnits + 45 * msUnits + Config.bankWords

/-- Units of the ALERT pulse, 100 µs (R93). -/
def alertPulseUnits : Nat := 100 * usUnits

/-- Units after which a low is a long low, 400 µs (R23). -/
def longLowUnits : Nat := 400 * usUnits

/-- Units of the wake pattern: three lows of 1 ms, 1 ms apart (R22). -/
def patternUnits : Nat := 5 * msUnits

/-- Whether the wake pattern holds the line low at a time since it began (R22). -/
def patternLow (t : Nat) : Bool := t < patternUnits && (t / msUnits) % 2 == 0

/-- The pattern window in ms (R182). -/
def windowMs : Nat := 10

/-- The forced-wake period in ms, for a setting in minutes (R181). -/
def forcedMs (minutes : Nat) : Nat := minutes * 60000

/-- A timer that starts from 0. -/
def Timer.zero : Timer := ⟨0, 0⟩

/-- One unit of a timer that counts up to `limit`, one count each `unit` units, and waits there. -/
def Timer.up (unit limit : Nat) (t : Timer) : Timer :=
  if limit ≤ t.count then t
  else if t.sub + 1 < unit then { t with sub := t.sub + 1 }
  else ⟨t.count + 1, 0⟩

/-- One unit of a timer that counts down to 0 and waits there. -/
def Timer.down (unit : Nat) (t : Timer) : Timer :=
  if t.count = 0 then t
  else if t.sub + 1 < unit then { t with sub := t.sub + 1 }
  else ⟨t.count - 1, 0⟩

/-- One unit of a plain clock that waits at `limit`. -/
def clockUp (limit t : Nat) : Nat := if t < limit then t + 1 else t

end Sys2Proof.Machine
end

