-- ==== Sys2Proof/Machine/Departure.lean ====
section
/-!
DEFINITION. Gaining and losing the line: the fresh search (R16), the inactive Line Interface (R21), what every block does
when the station leaves JOINING or MEMBER (R45, R61, R71, R73, R149, R163, R178), and the membership changes that cause it.
-/

namespace Sys2Proof.Machine

/-- A fresh search; `edge`: it starts at a falling edge, which is its first (R16, R20). -/
def Line.freshSearch (l : Line) (edge : Bool) : Line :=
  { l with
    align := .seeking, search := ⟨edge, none⟩, silence := some Timer.zero, heldLow := false, backoff := none
    round := none, burstPoints := 0 }

/-- The Line Interface becomes inactive; the round count stays (R16, R21). -/
def Line.inactive (l : Line) : Line :=
  { l with
    align := .seeking, search := ⟨false, none⟩, silence := none, heldLow := false, backoff := none, round := none
    burstPoints := 0 }

/-- An absent roster (R41). -/
def emptyRoster : Vector RosterEntry 31 := Vector.replicate 31 ⟨false, 0⟩

/-- No MARK waiting or in progress, and no setup pulse, is awaited any more (R140, R174). -/
def Programmer.forgetAnswers (p : Programmer) : Programmer :=
  { p with
    marks := p.marks.map fun j => { j with awaited := false }
    pulses := p.pulses.map fun
      | .program w v k _ => .program w v k false
      | .erase k _ => .erase k false
    op :=
      match p.op with
      | .word w =>
        match w.purpose with
        | .mark n _ => .word { w with purpose := .mark n false }
        | .header | .commitWord | .commitVoid | .voidMark => .word w
      | .pulse (.program w v k _) => .pulse (.program w v k false)
      | .pulse (.erase k _) => .pulse (.erase k false)
      | .idle => .idle
      | .bankErase b h => .bankErase b h }

/-- The Order Unit drops what it awaits and what it is owed; the work itself goes on (R140, R174). -/
def State.dropAnswers (s : State) : State :=
  ((s.setOrders { s.orders with awaited := none }).setSetup { s.setup with owed := .none }).setProgrammer
    s.programmer.forgetAnswers

/-- The Order Unit's stream and outbox emptied (R140, R149). -/
def Orders.cleared (o : Orders) : Orders :=
  { o with outbox := none, replaced := false, stream := none, read := .none }

/-- The Order Unit and the Readout Lock at a departure from MEMBER (R149, R163, R174). -/
def State.ordersDepart (s : State) : State :=
  ((s.setOrders { s.orders.cleared with openTimer := 0 }).setLock .locked).dropAnswers

/-- In level mode a departure releases the ALERT pin (R94); a pulse runs on (R93). -/
def pinsDepart (mode : PinMode) (p : Pins) : Pins :=
  match mode with
  | .pulse => p
  | .level => { p with alertLow := false }

/-- What every block but the Line Interface and the Membership Controller does when the station leaves JOINING or MEMBER,
whichever way it leaves. -/
def State.depart (s : State) : State :=
  let member := s.membership.state == .member
  let s := s.setSequencer (sequencerDepart s.sequencer)
  let s := s.setMonitors (clearTripCounts s.monitors)
  let s := s.setRing []
  let s := s.engineDepart
  let s := s.setPins (pinsDepart s.settings.pinMode s.pins)
  let s := s.setRest { s.rest with count := 0 }
  if member then s.ordersDepart else s

/-- The station withdraws from JOINING or MEMBER with a cause (R21, R28, R31, R33). -/
def State.withdraw (s : State) (c : Cause) : State :=
  let s := s.depart
  (s.setLine s.line.inactive).setMembership { s.membership with state := .withdrawn, cause := c }

/-- The membership after a loss of alignment: SEEKING, roster and roll timer cleared (R30, R31). -/
def Membership.lost (m : Membership) : Membership :=
  { m with state := .seeking, rollTimer := 0, roster := emptyRoster }

/-- A foreign pulse, a falling edge or not (R20, R30, R31). -/
def State.foreignPulse (s : State) (edge : Bool) : State :=
  match s.membership.state with
  | .member =>
    let m := { s.membership with syncLosses := s.membership.syncLosses + 1 }
    if Config.maxSyncLosses ≤ s.membership.syncLosses + 1 then
      let s := s.withdraw .sync
      s.setMembership { s.membership with syncLosses := m.syncLosses }
    else
      let s := s.depart
      (s.setLine (s.line.freshSearch edge)).setMembership m.lost
  | .joining =>
    let s := s.depart
    (s.setLine (s.line.freshSearch edge)).setMembership s.membership.lost
  | .starting | .seeking | .dormant | .withdrawn => s

/-- A driver fault (R12, R33). -/
def State.driverFault (s : State) : State := if s.onLine then s.withdraw .driver else s

/-- The station enters JOINING (R25). -/
def Membership.join (m : Membership) : Membership := { m with state := .joining, rollTimer := 0 }

/-- The station leaves STARTING once validation and scan have both ended (R24). -/
def State.leaveStarting (s : State) : State :=
  if s.membership.state = .starting ∧ s.setup.validated ∧ s.store.scanned then
    (s.setMembership { s.membership with state := .seeking }).setLine (s.line.freshSearch false)
  else s

end Sys2Proof.Machine
end

