-- ==== Sys2Proof/Machine/Line.lean ====
section
/-!
DEFINITION. The Line Interface (chapter 2): the mark search (R17), the silence and backoff timers (R18, R19), what the line
does to an ALIGNED station (R4, R20), and what the station drives (R2, R7 to R10, R22).
-/

namespace Sys2Proof.Machine

/-! ### The mark search (R17) -/

/-- The classes of an interval between falling edges (R17). -/
inductive Interval where
  | single | double | broken
  deriving DecidableEq, Repr

/-- The class of an interval in hundredths of the station's own slot time (R17, log entry 23). -/
def classify (hundredths : Nat) : Interval :=
  if 75 ≤ hundredths ∧ hundredths ≤ 125 then .single
  else if 175 ≤ hundredths ∧ hundredths ≤ 225 then .double
  else .broken

/-- The single count after an interval that does not align the station (R17). -/
def searchStep (singles : Option Nat) (i : Interval) : Option Nat :=
  match i, singles with
  | .double, _ => some 0
  | .single, some n => if n < Config.markSingles then some (n + 1) else none
  | .single, none => none
  | .broken, _ => none

/-- The interval is the second mark (R17). -/
def secondMark (singles : Option Nat) (i : Interval) : Bool := i == .double && singles == some Config.markSingles

/-- The station searches the line (R16, R17). -/
def State.searching (s : State) : Bool :=
  s.membership.state == .seeking && s.line.align == .seeking && s.line.silence.isSome

/-- The Line Interface ALIGNED at a slot and quarter, its search and timers over. -/
def Line.aligned (l : Line) (slot : Fin 38) (q : Quarter) : Line :=
  { l with
    align := .aligned, position := slot, phase := q, phaseTime := 0, search := ⟨false, none⟩, silence := none
    heldLow := false, backoff := none, round := none, burstPoints := 0 }

/-- The station becomes ALIGNED and enters JOINING (R16, R25). -/
def State.becomeAligned (s : State) (slot : Fin 38) (q : Quarter) : State :=
  (s.setLine (s.line.aligned slot q)).setMembership s.membership.join

/-- The second mark: ALIGNED at the Q2 edge of slot 1 (R17). -/
def State.alignByMarks (s : State) : State :=
  if s.searching && s.line.search.singles == some Config.markSingles then s.becomeAligned 1 .q2 else s

/-- A falling edge while SEEKING (R17, R18). The first edge of a search ends no interval. -/
def State.markSearchEdge (s : State) (hundredths : Nat) : State :=
  if s.searching then
    if s.line.search.edgeSeen then
      if secondMark s.line.search.singles (classify hundredths) then s.becomeAligned 1 .q2
      else
        s.setLine
          { s.line with
            search := ⟨true, searchStep s.line.search.singles (classify hundredths)⟩, silence := some Timer.zero }
    else s.setLine { s.line with search := ⟨true, none⟩, silence := some Timer.zero }
  else s

/-! ### Silence and backoff (R18, R19) -/

/-- The silence timer reaches 76 slot times (R18). -/
def State.silenceTimerExpiry (s : State) (lineHigh : Bool) (draw : BitVec 6) : State :=
  if s.searching then
    if lineHigh then
      s.setLine
        { s.line with
          align := .silent, search := ⟨false, none⟩, silence := none
          backoff := some ⟨Config.backoffBase + draw.toNat, 0⟩ }
    else s.setLine { s.line with silence := some Timer.zero }
  else s

/-- An edge or a low during backoff (R19). A low found without a fall holds the silence timer until the line rises. -/
def State.edgeDuringBackoff (s : State) (fell : Bool) : State :=
  if s.line.align = .silent then
    if fell then s.setLine (s.line.freshSearch true)
    else s.setLine { s.line.freshSearch false with silence := none, heldLow := true }
  else s

/-- The backoff expires: the station opens the line with its own mark slot (R19). -/
def State.openLine (s : State) : State :=
  if s.line.align = .silent ∧ s.membership.state = .seeking then s.becomeAligned 0 .q1 else s

/-! ### An ALIGNED station and the line (R4, R20) -/

/-- What the line does outside the samples: a foreign pulse (R20), a resynchronising edge in Q1, or an edge that moves
nothing (R4). -/
def State.lineEdge (s : State) (e : LineEdge) : State :=
  if s.line.align = .aligned ∧ s.onLine then
    match e with
    | .lowThroughQ1 _ => s.foreignPulse false
    | .fall slot q =>
      if slot = 0 then (if q = .q4 then s else s.foreignPulse true)
      else if q = .q1 then s.setLine { s.line with position := slot, phase := .q2, phaseTime := 0 }
      else s
  else s

/-- A driver fault is found in a round in progress (R12). -/
def State.driverFaultFound (s : State) : State :=
  if s.line.align = .aligned ∧ s.line.round.isSome then s.driverFault else s

/-! ### What the station drives (R2, R7 to R10) -/

/-- A bit sent within a field or body while every bit before it has read back as sent, and 1 after that (R7, R9, R10). -/
def sentWithin (own line : List Bool) (k : Nat) : Bool :=
  if own.take k = line.take k then own.getD k true else true

/-- The body bit the station sends in slot b_k of a round whose kind reads `kind`, given the body slots sampled before it
(R8 to R10, R27, R38). -/
def sentBodyBit (number : BitVec 5) (o : Offers) (kind : BitVec 3) (body : List Bool) (k : Nat) : Bool :=
  if kind = 0 then
    match o.kind with
    | .incident f =>
      if k < 16 then sentWithin (lineBits (~~~f.number)) body k
      else if k < 20 then sentWithin (lineBits f.preDepth) (body.drop 16) (k - 16)
      else if k < 24 then sentWithin (lineBits (~~~f.postCode)) (body.drop 20) (k - 20)
      else sentWithin (lineBits f.origin) (body.drop 24) (k - 24)
    | .none | .probe _ | .roll | .reply _ => true
  else if kind = 1 then
    if k = 29 then !(o.member && body.take 5 == lineBits number)
    else
      match o.kind with
      | .probe code => if k < 29 then sentWithin (lineBits (probeBits number code)) body k else true
      | .none | .incident _ | .roll | .reply _ => true
  else if kind = 2 then !o.member || (rollBits number o.storeFull).getMsbD k
  else if kind = 4 then
    match o.kind with
    | .reply r => sentWithin (lineBits (replyBody number r)) body k
    | .none | .incident _ | .probe _ | .roll => true
  else true

/-- The kind three sampled slots name. -/
def sampledKind (sampled : List Bool) : BitVec 3 :=
  BitVec.ofBool (sampled.getD 0 true) ++ BitVec.ofBool (sampled.getD 1 true) ++ BitVec.ofBool (sampled.getD 2 true)

/-- The bit the station sends in a data slot, 1 to 37, given what slots 1 on have sampled before it (R5 to R10). -/
def sentBit (number : BitVec 5) (o : Offers) (sampled : List Bool) (slot : Nat) : Bool :=
  if slot ≤ 3 then
    match offeredKind o.kind with
    | some k => sentWithin (lineBits (kindCode k)) sampled (slot - 1)
    | none => true
  else if slot = 4 then !o.banner.alert
  else if slot = 5 then !o.banner.stay
  else sentBodyBit number o (sampledKind sampled) (sampled.drop 5) (slot - 6)

/-- The station pulls the line low now (R2, R22), given what the round's slots from 1 on have sampled so far: the sync
pulse in Q2, a 0 in Q3 and Q4, and the lows of the wake pattern. -/
def State.pullsLine (s : State) (sampled : List Bool) : Bool :=
  (match s.line.pattern with
    | some t => patternLow t
    | none => false)
  || (s.line.align == .aligned && s.onLine && s.line.position != 0
    && match s.line.phase with
      | .q1 => false
      | .q2 => true
      | .q3 | .q4 =>
        match s.line.round with
        | some o => !sentBit s.membership.number o sampled s.line.position.val
        | none => false)

end Sys2Proof.Machine
end

