-- ==== Sys2Proof/Machine/Rest.lean ====
section
/-!
DEFINITION. The Rest Controller (chapter 11): the rest count, entry into DORMANT, what wakes a dormant station, and the
wake.
-/

namespace Sys2Proof.Machine

/-- The station rests, and nothing has set waking yet (R180 to R182). -/
def State.resting (s : State) : Bool := s.membership.state == .dormant && !s.rest.waking

/-- A sense or timer waker begins its wake pattern (R22, R183). The detector does not watch the line meanwhile (R23). -/
def State.beginPattern (s : State) : State :=
  (s.setRest { s.rest with waking := true, sense := none, forced := none, longLows := 0, window := none }).setLine
    { s.line with pattern := some 0, detector := .idle, lowTime := 0 }

/-- The station leaves DORMANT for SEEKING (R184). The long-low count and window are cleared too (log entry 27). -/
def State.leaveDormant (s : State) : State :=
  ((((s.setMembership { s.membership with state := .seeking }).setRest
      { s.rest with waking := false, sense := none, forced := none, longLows := 0, window := none }).setMonitors
        (clearTripCounts s.monitors)).setSequencer { s.sequencer with converter := .idle, elapsed := 0 }).setLine
    { s.line.freshSearch false with detector := .idle, lowTime := 0, pattern := none }

/-- The Membership Controller at entry into DORMANT (R42). -/
def Membership.rest (m : Membership) : Membership :=
  { m with state := .dormant, syncLosses := 0, rollTimer := 0, roster := emptyRoster }

/-- The Rest Controller at entry into DORMANT (R179). -/
def restEntered (st : Settings) : Rest :=
  { count := 0, sense := some Timer.zero, forced := st.forcedWake.map fun _ => Timer.zero, longLows := 0, window := none
    waking := false }

/-- The station enters DORMANT at a round end (R179); `low`: the line is low at that moment. -/
def State.enterDormant (s : State) (low : Bool) : State :=
  let s := s.depart
  let s := s.setMembership s.membership.rest
  let s := s.setLine { s.line.inactive with detector := if low then .timing else .idle, lowTime := 0 }
  let s := s.setRest (restEntered s.settings)
  if s.monitors.alertPending then s.beginPattern else s

/-- The rest count at a round end, and entry into DORMANT at 32 (R178). The line is low at the round end when slot 37
sampled 0 (log entry 22). -/
def State.restRoundEnd (s : State) (r : Round) : State :=
  if s.onLine then
    if r.banner.stay then s.setRest { s.rest with count := 0 }
    else if Config.restRounds ≤ s.rest.count + 1 ∧ s.membership.state = .member then
      s.enterDormant (!r.body.getMsbD 31)
    else s.setRest { s.rest with count := min (s.rest.count + 1) Config.restRounds }
  else s

/-- The sense timer reaches its period: it restarts, and a sense conversion begins (R180). -/
def State.senseTimerExpiry (s : State) : State :=
  if s.resting && s.rest.sense.isSome then
    (s.setRest { s.rest with sense := some Timer.zero }).setSequencer
      { s.sequencer with converter := .sense, elapsed := 0 }
  else s

/-- A sense conversion completes (R62); a trip wakes the station unless it is waking already (R183). -/
def State.senseConversionDone (s : State) (x : Sample) : State :=
  if s.sequencer.converter = .sense then
    let j := submitSample s.settings s.settings.senseInput x s.monitors
    let s := (s.setSequencer { s.sequencer with converter := .idle, elapsed := 0 }).setMonitors j.1
    if j.2 && s.resting then s.beginPattern else s
  else s

/-- The forced-wake timer expires (R181). -/
def State.forcedWakeExpiry (s : State) : State :=
  if s.resting && s.rest.forced.isSome then s.beginPattern else s

/-- The third low of the wake pattern ends (R22). -/
def State.wakePatternEnd (s : State) : State :=
  if s.line.pattern.isSome && s.membership.state == .dormant then s.leaveDormant else s

/-- The Rest Controller counts a long-low event (R182). -/
def State.countLongLow (s : State) : State :=
  if !s.settings.wakeThree || decide (2 ≤ s.rest.longLows) then s.leaveDormant
  else if s.rest.longLows = 0 then s.setRest { s.rest with longLows := 1, window := some Timer.zero }
  else s.setRest { s.rest with longLows := 2 }

/-- The low being timed has lasted 400 µs (R23): one event for that low. -/
def State.longLow (s : State) : State :=
  if s.resting && s.line.detector == .timing then (s.setLine { s.line with detector := .reported }).countLongLow
  else s

/-- The line falls while the station rests: the detector times the low (R23). -/
def State.longLowTimingStart (s : State) : State :=
  if s.resting && s.line.detector == .idle then s.setLine { s.line with detector := .timing, lowTime := 0 } else s

/-- The pattern window ends with the count incomplete (R182). -/
def State.patternWindowExpiry (s : State) : State :=
  if s.resting && s.rest.window.isSome then s.setRest { s.rest with longLows := 0, window := none } else s

/-- The line rises: the detector is ready for the next low (R23), and a low found during backoff lets the silence timer
run (R19). -/
def State.lineRise (s : State) : State :=
  if s.line.heldLow then s.setLine { s.line with heldLow := false, silence := some Timer.zero }
  else s.setLine { s.line with detector := .idle, lowTime := 0 }

end Sys2Proof.Machine
end

