-- ==== Sys2Proof/Machine/Store.lean ====
section
/-!
DEFINITION. The Capture Store (chapter 8): headers and record states, lookups, reclaim, and the start-up scan.
-/

namespace Sys2Proof.Machine

/-! ### Headers (R116, R118) -/

/-- The successor in the cycle of sequence values (R116). -/
def sequenceSuccessor (v : Word) : Word := if v = 65534 then 1 else v + 1

/-- What a header says of its bank (R116). -/
inductive HeaderClass where
  | fresh | dirty
  | sequence (v : Word)
  deriving DecidableEq, Repr

/-- The classification of a bank by its header and content (R116). -/
def classifyBank (m : Nv) : HeaderClass :=
  if m = [] then .fresh
  else if nvRead m 0 = erasedWord ∨ nvRead m 0 = 0 then .dirty
  else .sequence (nvRead m 0)

/-- The newer of two banks holding the sequence values `v0` and `v1` (R116). -/
def newerBySequence (v0 v1 : Word) : BankId :=
  if v1 = sequenceSuccessor v0 then .bank1
  else if v0 = sequenceSuccessor v1 then .bank0
  else if v0 < v1 then .bank1
  else .bank0

/-! ### Record states (R119) -/

/-- The state of a record (R119). -/
inductive RecordState where
  | free | started | complete | read | void | stray
  deriving DecidableEq, Repr

/-- The state a state word reads (R119): STARTED is bit 0, COMPLETE bit 1, READ bit 2, VOID bit 3, cleared when set. -/
def recordState (w : Word) : RecordState :=
  if w = erasedWord then .free
  else if w.getLsbD 0 then .stray
  else if !w.getLsbD 3 then .void
  else if w.getLsbD 1 then .started
  else if w.getLsbD 2 then .complete
  else .read

/-- The values of the four state-bit steps (R187). -/
def startedStep : Word := 0xFFFE
def completeStep : Word := 0xFFFD
def readStep : Word := 0xFFFB
def voidStep : Word := 0xFFF7

/-- The state of a record of a bank. -/
def extentState (m : Nv) (x : Extent) : RecordState := recordState (nvRead m x.position)

/-- The primary number word of a record (R187). -/
def extentPrimary (m : Nv) (x : Extent) : Word := nvRead m (x.position + 2)

/-- The COMPLETE records of a bank (R115, R123). -/
def completeCount (m : Nv) (xs : List Extent) : Nat :=
  (xs.filter fun x => extentState m x == .complete).length

/-- Every record is READ or VOID (R125), each judged by its state word (R119). So a record whose commit ended VOID
(R122) but whose state word reads stray or FREE counts as neither: the model's choice (log entry 34). -/
def allReadOrVoid (m : Nv) (xs : List Extent) : Bool :=
  xs.all fun x => extentState m x == .read || extentState m x == .void

/-! ### Store order and lookups (R120, R128, R130) -/

/-- The bank holds records: OPEN or CLOSED (R117). -/
def BankState.holdsRecords : BankState → Bool
  | .opened | .closed => true
  | .fresh | .dirty | .erasing | .bad => false

/-- The newer of the two banks while the station runs (R116). -/
def newerBank (t : Store) (m : Arrays) : BankId :=
  if t.bank0.state = .opened ∧ nvRead m.bank0 0 = erasedWord then .bank0
  else if t.bank1.state = .opened ∧ nvRead m.bank1 0 = erasedWord then .bank1
  else newerBySequence (nvRead m.bank0 0) (nvRead m.bank1 0)

/-- The records of a bank that holds records, with their bank. -/
def bankRecords (t : Store) (b : BankId) : List (BankId × Extent) :=
  if (t.bank b).state.holdsRecords then (t.bank b).records.map fun x => (b, x) else []

/-- The records of the store in store order: the older bank's, then the newer's (R120). -/
def storeOrder (t : Store) (m : Arrays) : List (BankId × Extent) :=
  bankRecords t (newerBank t m).other ++ bankRecords t (newerBank t m)

/-- The first record in store order whose primary number is n (R130). -/
def findByNumber (t : Store) (m : Arrays) (n : Word) : Option (BankId × Extent) :=
  (storeOrder t m).find? fun x => extentPrimary (m.bank x.1) x.2 == n

/-- The first COMPLETE record in store order (R130). -/
def oldestUnread (t : Store) (m : Arrays) : Option (BankId × Extent) :=
  (storeOrder t m).find? fun x => extentState (m.bank x.1) x.2 == .complete

/-- The free words of the OPEN bank (R117). -/
def freeWords (t : Store) : Nat :=
  match t.openBank with
  | none => 0
  | some b => if (t.bank b).state = .erasing then 0 else Config.bankWords - t.appendPoint

/-! ### Changes of a bank -/

/-- A bank's state set. -/
def Store.setState (t : Store) (b : BankId) (v : BankState) : Store := t.setBank b { t.bank b with state := v }

/-- A bank given an erase pending (R125, R129). -/
def Store.setPending (t : Store) (b : BankId) : Store := t.setBank b { t.bank b with erasePending := true }

/-- The OPEN bank becomes CLOSED (R122, R124). -/
def Store.closeBank (t : Store) (b : BankId) : Store := { t.setState b .closed with openBank := none }

/-- A FRESH bank becomes OPEN with append point 1 (R124). -/
def Store.openFresh (t : Store) (b : BankId) : Store :=
  { t.setState b .opened with openBank := some b, appendPoint := 1 }

/-- The bank's erase begins: ERASING, no erase pending, no records, no queued VOIDs, its COMPLETE records uncounted
(R115, R132). A BAD bank is kept in mind until the erase verifies (R43, log entry 30). -/
def Store.beginErase (t : Store) (b : BankId) (m : Nv) : Store :=
  { t.setBank b ⟨.erasing, false, []⟩ with
    unread := t.unread - completeCount m (t.bank b).records
    voidQueue := t.voidQueue.filter fun x => x.1 != b
    stillBad := (t.bank b).state == .bad }

/-- The erase of a bank has verified (R115, R129). -/
def Store.eraseVerified (t : Store) (b : BankId) : Store :=
  if t.openBank = some b then { t.setState b .opened with appendPoint := 1, stillBad := false }
  else { t.setState b .fresh with stillBad := false }

/-- The erase of a bank has failed its verify (R115, R129). -/
def Store.eraseFailed (t : Store) (b : BankId) : Store :=
  { t.setState b .bad with openBank := if t.openBank = some b then none else t.openBank, stillBad := false }

/-- A record found or begun becomes a record of its bank (R120, R121). -/
def Store.addRecord (t : Store) (b : BankId) (x : Extent) : Store :=
  t.setBank b { t.bank b with records := (t.bank b).records ++ [x] }

/-! ### The room check (R124 to R127) -/

/-- What a room check comes to: the bank a commit begins in, or a wait, or FULL. -/
inductive Room where
  | commit (b : BankId)
  | wait
  | full
  deriving DecidableEq, Repr

/-- Case e: a bank is DIRTY or ERASING, or is CLOSED or FRESH with an erase pending. -/
def awaitsErase (b : Bank) : Bool :=
  match b.state with
  | .dirty | .erasing => true
  | .closed | .fresh => b.erasePending
  | .opened | .bad => false

/-- The reclaim candidate of cases f and g, if any. -/
def reclaimCandidate (t : Store) (m : Arrays) : Option BankId :=
  match t.bank0.state, t.bank1.state with
  | .closed, .closed => some (newerBank t m).other
  | .closed, .bad => some .bank0
  | .bad, .closed => some .bank1
  | _, _ => none

/-- The reclaim of a candidate (R125). -/
def reclaim (policy : StorePolicy) (t : Store) (m : Arrays) (b : BankId) : Store × Room :=
  if policy = .overwrite ∨ allReadOrVoid (m.bank b) (t.bank b).records then (t.setPending b, .wait)
  else (t, .full)

/-- Cases d to h, with no bank OPEN (R124). -/
def roomNoOpen (policy : StorePolicy) (t : Store) (m : Arrays) : Store × Room :=
  if t.bank0.state = .fresh ∧ !t.bank0.erasePending then (t.openFresh .bank0, .commit .bank0)
  else if t.bank1.state = .fresh ∧ !t.bank1.erasePending then (t.openFresh .bank1, .commit .bank1)
  else if awaitsErase t.bank0 || awaitsErase t.bank1 then (t, .wait)
  else
    match reclaimCandidate t m with
    | some b => reclaim policy t m b
    | none => (t, .wait)

/-- Cases a to h (R124). -/
def roomCases (policy : StorePolicy) (t : Store) (m : Arrays) (n : Nat) : Store × Room :=
  match t.openBank with
  | some b =>
    if (t.bank b).erasePending ∨ (t.bank b).state = .erasing then (t, .wait)
    else if n ≤ freeWords t then (t, .commit b)
    else roomNoOpen policy (t.closeBank b) m
  | none => roomNoOpen policy t m

/-- The room check for a record of length n, with the FULL flag it leaves (R124, R126). -/
def roomCheck (policy : StorePolicy) (t : Store) (m : Arrays) (n : Nat) : Store × Room :=
  let o := roomCases policy t m n
  ({ o.1 with full := o.2 == .full }, o.2)

/-! ### The start-up scan (R135 to R138), stage by stage -/

/-- A length word that a record at a position can have (R136). -/
def validLength (position : Nat) (w : Word) : Bool :=
  decide (Config.minRecord ≤ w.toNat) && decide (w.toNat ≤ Config.maxRecord)
    && decide (position + w.toNat ≤ Config.bankWords)

/-- The merge numbers a record of a length lists, if its merge count and length allow the list (R138). -/
def mergeNumbers (m : Nv) (x : Extent) : List Word :=
  let count := ((nvRead m (x.position + 6)).extractLsb' 5 3).toNat
  if count ≤ Config.maxMerges ∧ 10 + count ≤ x.length then
    (List.range count).map fun k => nvRead m (x.position + 10 + k)
  else []

/-- The incident numbers of one record (R138). -/
def recordNumbers (m : Nv) (x : Extent) : List Nat :=
  ((extentPrimary m x :: mergeNumbers m x).filter fun w => w != erasedWord).map BitVec.toNat

/-- NEXT from the greatest incident number found; none found is 0 (R138). -/
def nextFromGreatest (greatest : Nat) : Word := BitVec.ofNat 16 (min (greatest + 1) 65535)

/-- The sequence value the scan found in a bank's header, if any. -/
def Scan.value (c : Scan) : BankId → Option Word
  | .bank0 => c.value0
  | .bank1 => c.value1

/-- The append point the walk of a bank reached, if any. -/
def Scan.append (c : Scan) : BankId → Option Nat
  | .bank0 => c.append0
  | .bank1 => c.append1

/-- A sequence value noted. -/
def Scan.setValue (c : Scan) (b : BankId) (v : Word) : Scan :=
  match b with
  | .bank0 => { c with value0 := some v }
  | .bank1 => { c with value1 := some v }

/-- What a walk ended with. -/
def Scan.setAppend (c : Scan) (b : BankId) (p : Option Nat) : Scan :=
  match b with
  | .bank0 => { c with append0 := p }
  | .bank1 => { c with append1 := p }

/-- A stage begins, with none of its words read. -/
def Scan.enter (c : Scan) (g : ScanStage) : Scan := { c with stage := g, read := 0 }

/-- The scan once bank b is walked, or is not to be: bank 1 after bank 0 (log entry 32). -/
def Scan.walked (c : Scan) : BankId → Scan
  | .bank0 => if c.value1.isSome then c.enter (.walk .bank1 1) else c.enter .decide
  | .bank1 => c.enter .decide

/-- The scan once bank b is classified: both banks first, then the walks of those with a sequence value (R135, R137). -/
def Scan.classified (c : Scan) : BankId → Scan
  | .bank0 => c.enter (.classify .bank1)
  | .bank1 => if c.value0.isSome then c.enter (.walk .bank0 1) else c.walked .bank0

/-- A bank's header and content are classified (R116, R135). A bank with a sequence value stands CLOSED until the scan
decides (log entry 33). -/
def Store.scanClassify (t : Store) (b : BankId) (m : Nv) : Store :=
  match classifyBank m with
  | .fresh => { t.setBank b ⟨.fresh, false, []⟩ with scan := t.scan.classified b }
  | .dirty => { t.setBank b ⟨.dirty, true, []⟩ with scan := t.scan.classified b }
  | .sequence v => { t.setBank b ⟨.closed, false, []⟩ with scan := (t.scan.setValue b v).classified b }

/-- The walk of a bank ends, at an append point or closed (R136). -/
def Store.endWalk (t : Store) (b : BankId) (p : Option Nat) : Store :=
  { t with scan := (t.scan.setAppend b p).walked b }

/-- The walk goes on past a record, and ends at the end of its bank (R136). -/
def Store.walkOn (t : Store) (b : BankId) (p : Nat) : Store :=
  if p < Config.bankWords then { t with scan := t.scan.enter (.walk b p) } else t.endWalk b (some Config.bankWords)

/-- A record with a valid length is passed: kept, queued for its VOID mark when STARTED, counted when COMPLETE, and its
incident numbers noted (R136, R138). -/
def Store.passRecord (t : Store) (b : BankId) (m : Nv) (x : Extent) : Store :=
  { t.addRecord b x with
    voidQueue := if extentState m x = .started then t.voidQueue ++ [(b, x)] else t.voidQueue
    unread := if extentState m x = .complete then t.unread + 1 else t.unread
    scan := { t.scan with greatest := (recordNumbers m x).foldl max t.scan.greatest } }

/-- One position of the walk of a bank (R136). -/
def Store.scanWalk (t : Store) (b : BankId) (m : Nv) (p : Nat) : Store :=
  match recordState (nvRead m p) with
  | .free => t.endWalk b (some p)
  | .stray => t.endWalk b none
  | .started | .complete | .read | .void =>
    let n := nvRead m (p + 1)
    if validLength p n then (t.passRecord b m ⟨p, n.toNat⟩).walkOn b (p + n.toNat) else t.endWalk b none

/-- The bank the scan may open: the newer of two with sequence values, or the only one (R137). -/
def Scan.newer (c : Scan) : Option BankId :=
  match c.value0, c.value1 with
  | some v0, some v1 => some (newerBySequence v0 v1)
  | some _, none => some .bank0
  | none, some _ => some .bank1
  | none, none => none

/-- The bank states decided: the newer bank OPEN if its walk reached an append point; a bank that was only classified is
left as the programmer has it by now (R133, R137). -/
def Store.scanDecide (t : Store) : Store :=
  match t.scan.newer with
  | none => t
  | some b =>
    match t.scan.append b with
    | some p => { t.setState b .opened with openBank := some b, appendPoint := p }
    | none => t

/-- The words a stage of the scan reads (R113, R135, log entry 33): of a header FFFFh, the words up to the first that is
not FFFFh; of a walk, state word, length word, primary number, merge count and merge list, as far as it comes to them. -/
def scanWords (m : Arrays) : ScanStage → Nat
  | .classify b =>
    match m.bank b with
    | [] => Config.bankWords
    | (a, _) :: _ => a + 1
  | .walk b p =>
    match recordState (nvRead (m.bank b) p) with
    | .free | .stray => 1
    | .started | .complete | .read | .void =>
      let n := nvRead (m.bank b) (p + 1)
      if validLength p n then 4 + (mergeNumbers (m.bank b) ⟨p, n.toNat⟩).length else 2
  | .decide => 0

end Sys2Proof.Machine
end

