-- ==== Sys2Proof/Machine/Programmer.lean ====
section
/-!
DEFINITION. The NV Programmer (chapter 8): its order of work (R132), what each operation does when it ends (R114, R115,
R171, R173), the commit of a record (R121 to R123), and what a cut-off operation leaves (R134, R175).
-/

namespace Sys2Proof.Machine

/-! ### Beginning an operation -/

/-- An operation begins (R131). -/
def State.beginOp (s : State) (op : Operation) : State :=
  s.setProgrammer { s.programmer with op := op, elapsed := 0 }

/-- A state-bit step on the state word at an address begins; it is meant to clear its own bit alone (R114, R119). -/
def State.beginStep (s : State) (p : Purpose) (b : BankId) (a : Nat) (step : Word) : State :=
  s.beginOp (.word ⟨p, b, a, step, nvRead (s.arrays.bank b) a &&& step, 1⟩)

/-- The program of a word that is meant to hold the value programmed begins (R114). -/
def State.beginWord (s : State) (p : Purpose) (b : BankId) (a : Nat) (v : Word) : State :=
  s.beginOp (.word ⟨p, b, a, v, v, 1⟩)

/-- The lower of two levels of R132 is reached when the higher has begun nothing. -/
def State.orTake (s : State) (lower : State → State) : State :=
  if s.programmer.op = .idle then lower s else s

/-! ### MARKs (R128, R150) -/

/-- The reply of a MARK's report goes into the outbox if the Order Unit still awaits it (R150). -/
def State.reportMark (s : State) (awaited : Bool) (r : Reply) : State :=
  if awaited then s.setOrders { s.orders with outbox := some r, awaited := none } else s

/-- The oldest MARK whose record is COMPLETE begins its READ step; the MARKs before it are reported not found (R128). -/
def State.takeMarks (s : State) : List MarkJob → State
  | [] => s.setProgrammer { s.programmer with marks := [] }
  | j :: js =>
    match findByNumber s.store s.arrays j.number with
    | some x =>
      if extentState (s.arrays.bank x.1) x.2 = .complete then
        (s.setProgrammer { s.programmer with marks := js }).beginStep (.mark j.number j.awaited) x.1 x.2.position readStep
      else (s.reportMark j.awaited ⟨.absent, j.number⟩).takeMarks js
    | none => (s.reportMark j.awaited ⟨.absent, j.number⟩).takeMarks js

/-! ### Commits (R118, R121 to R124) -/

/-- The sequence value a bank's header is given (R118). -/
def headerValue (t : Store) (m : Arrays) (b : BankId) : Word :=
  if (t.bank b.other).state = .closed then sequenceSuccessor (nvRead (m.bank b.other) 0) else 1

/-- The program of a commit's next word begins (R121). -/
def State.beginCommitWord (s : State) (c : Commit) : State :=
  if c.next = 0 then
    (s.setStore (s.store.addRecord c.bank ⟨c.start, c.length⟩)).beginStep .commitWord c.bank c.start startedStep
  else if c.next = c.length then s.beginStep .commitWord c.bank c.start completeStep
  else s.beginWord .commitWord c.bank (c.start + c.next) ((s.staging.slot c.slot).image.getD c.next erasedWord)

/-- The head slot is taken and its commit stands before its STARTED step (R108, R121). -/
def State.takeSlot (s : State) (b : BankId) : State :=
  match s.staging.head with
  | some (i, _, w) =>
    (s.setStaging s.staging.takeHead).setProgrammer
      { s.programmer with commit := some ⟨i, b, s.store.appendPoint, w.length, 0⟩ }
  | none => s

/-- The commit in progress goes on with its next word. -/
def State.continueCommit (s : State) : State :=
  match s.programmer.commit with
  | some c => s.beginCommitWord c
  | none => s

/-- A commit begins in a bank: header first when it is unwritten, else the slot is taken (R118, R121). -/
def State.beginCommit (s : State) (b : BankId) : State :=
  if nvRead (s.arrays.bank b) 0 = erasedWord then s.beginWord .header b 0 (headerValue s.store s.arrays b)
  else (s.takeSlot b).continueCommit

/-- Level 3 of R132: the commit in progress, or the room check of the head slot (R124). -/
def State.takeRecord (s : State) : State :=
  match s.programmer.commit with
  | some c => s.beginCommitWord c
  | none =>
    match s.staging.head with
    | none => s
    | some (_, _, w) =>
      let o := roomCheck s.settings.policy s.store s.arrays w.length
      match o.2 with
      | .commit b => (s.setStore o.1).beginCommit b
      | .wait | .full => s.setStore o.1

/-! ### VOID marks and bank erases (R115, R132, R148) -/

/-- Level 4 of R132. The record leaves the queue as its step begins (log entry 31). -/
def State.takeVoid (s : State) : State :=
  match s.store.voidQueue with
  | [] => s
  | x :: xs => (s.setStore { s.store with voidQueue := xs }).beginStep .voidMark x.1 x.2.position voidStep

/-- The Order Unit when an erase begins on a bank: a stream of one of its records ends with ABSENT (R148). -/
def Orders.bankErased (o : Orders) (b : BankId) : Orders :=
  match o.stream with
  | some (.record b' _ _ _ n) =>
    if b' = b then { o with stream := none, read := .none, outbox := some ⟨.absent, n⟩, replaced := true } else o
  | some (.status _) | none => o

/-- A bank erase begins with its condemn write (R115); the write takes effect at once (log entry 13). -/
def State.beginBankErase (s : State) (b : BankId) : State :=
  let m := s.arrays.bank b
  (((s.setStore (s.store.beginErase b m)).setArrays (s.arrays.setBank b (nvWrite m 0 0))).setOrders
    (s.orders.bankErased b)).beginOp (.bankErase b (nvRead m 0))

/-- Level 5 of R132. -/
def State.takeErase (s : State) : State :=
  if s.store.bank0.erasePending then s.beginBankErase .bank0
  else if s.store.bank1.erasePending then s.beginBankErase .bank1
  else s

/-- Level 1 of R132. -/
def State.takePulse (s : State) : State :=
  match s.programmer.pulses with
  | [] => s
  | p :: ps => (s.setProgrammer { s.programmer with pulses := ps }).beginOp (.pulse p)

/-- The programmer, if IDLE, takes its next operation (R132). -/
def State.take (s : State) : State :=
  ((((s.orTake State.takePulse).orTake fun s => s.takeMarks s.programmer.marks).orTake State.takeRecord).orTake
    State.takeVoid).orTake State.takeErase

/-! ### The end of a word program (R114) -/

/-- A word program is in progress in a bank (R130). -/
def Programmer.programming (p : Programmer) (b : BankId) : Bool :=
  match p.op with
  | .word w => w.bank == b
  | .idle | .bankErase _ _ | .pulse _ => false

/-- A stream's read that waited for the bank reads its word as the program ends (R130, R147). -/
def Orders.programEnded (o : Orders) (b : BankId) (m : Nv) : Orders :=
  match o.read, o.stream with
  | .waiting, some (.record b' p _ k _) => if b' = b then { o with read := .ready (nvRead m (p + k)) } else o
  | _, _ => o

/-- A header that failed: the bank is DIRTY with an erase pending, and no bank is OPEN (R118). -/
def Store.headerFailed (t : Store) (b : BankId) : Store :=
  { t.setBank b { t.bank b with state := .dirty, erasePending := true } with openBank := none }

/-- The end of a commit: the slot is EMPTY and the programmer holds no commit (R109, R122, R123). -/
def State.endCommit (s : State) (c : Commit) : State :=
  (s.setStaging (s.staging.setSlot c.slot .empty)).setProgrammer { s.programmer with commit := none }

/-- A commit ends COMPLETE (R123). -/
def State.commitComplete (s : State) (c : Commit) : State :=
  (s.setStore { s.store with appendPoint := c.start + c.length, unread := s.store.unread + 1 }).endCommit c

/-- A commit ends VOID (R122). -/
def State.commitVoid (s : State) (c : Commit) : State :=
  (s.setStore { s.store.closeBank c.bank with appendPoint := c.start + c.length }).endCommit c

/-- A word of the commit is written: the next one stands, or the commit is COMPLETE (R121, R123). -/
def State.commitWordWritten (s : State) (c : Commit) : State :=
  if c.next = c.length then s.commitComplete c
  else s.setProgrammer { s.programmer with commit := some { c with next := c.next + 1 } }

/-- A MARK's READ step has ended (R128, R150). -/
def State.markEnded (s : State) (w : WordOp) (n : Word) (awaited passed : Bool) : State :=
  let s :=
    if recordState (nvRead (s.arrays.bank w.bank) w.address) = .read then
      s.setStore { s.store with unread := s.store.unread - 1 }
    else s
  s.reportMark awaited (if passed then ⟨.done, n⟩ else ⟨.refused, 2⟩)

/-- What the operation that asked for a word does when the word is written, or has failed. A failed commit word is
followed at once by the VOID step (log entry 12). -/
def State.wordEnded (s : State) (w : WordOp) (passed : Bool) : State :=
  match w.purpose, s.programmer.commit with
  | .header, _ =>
    if passed then (s.takeSlot w.bank).take else (s.setStore (s.store.headerFailed w.bank)).take
  | .commitWord, some c =>
    if passed then (s.commitWordWritten c).take else s.beginStep .commitVoid c.bank c.start voidStep
  | .commitVoid, some c => (s.commitVoid c).take
  | .commitWord, none | .commitVoid, none => s.take
  | .mark n awaited, _ => (s.markEnded w n awaited passed).take
  | .voidMark, _ => s.take

/-- One attempt of a word program ends (R114). -/
def State.attemptEnded (s : State) (w : WordOp) (missed : Word) : State :=
  let m := nvProgram Config.bankWords (s.arrays.bank w.bank) w.address w.value missed
  let s := s.setArrays (s.arrays.setBank w.bank m)
  let passed := nvRead m w.address == w.meant
  if passed || decide (Config.maxAttempts ≤ w.attempt) then
    ((s.setOrders (s.orders.programEnded w.bank m)).beginOp .idle).wordEnded w passed
  else s.beginOp (.word { w with attempt := w.attempt + 1 })

/-! ### The end of the other operations -/

/-- The bank after the erase and its verify: a failed one has its header rewritten to 0000h (R115). -/
def erasedBank (m : Nv) (unset : WordMasks) (missed : Word) : Nv :=
  let e := nvErase m unset
  if e = [] then e else nvProgram Config.bankWords e 0 0 missed

/-- A bank erase ends: verified when every word reads FFFFh (R115, R129). -/
def State.bankEraseEnded (s : State) (b : BankId) (unset : WordMasks) (missed : Word) : State :=
  let m := s.arrays.bank b
  let t := if nvErase m unset = [] then s.store.eraseVerified b else s.store.eraseFailed b
  (((s.setArrays (s.arrays.setBank b (erasedBank m unset missed))).setStore t).beginOp .idle).take

/-- The answer owed is loaded, if it is still owed (R171, R173, R174). -/
def State.answerOwed (s : State) (owed : Bool) (r : Reply) : State :=
  if owed then (s.setOrders { s.orders with outbox := some r }).setSetup { s.setup with owed := .none } else s

/-- The reply of a fourth program pulse (R171). -/
def programPulseReply (old value missed : Word) : Reply :=
  let new := programmedWord old value missed
  if new = old &&& value then ⟨.done, new⟩ else ⟨.refused, 2⟩

/-- A setup program pulse ends: the fourth programs its word, the others change nothing (R171). -/
def State.programPulseEnded (s : State) (i : Nat) (v : Word) (position : Nat) (owed : Bool) (missed : Word) : State :=
  if position = 4 then
    let m := s.arrays.setup
    let t := s.setArrays { s.arrays with setup := nvProgram Config.setupWords m i v missed }
    ((t.beginOp .idle).answerOwed owed (programPulseReply (nvRead m i) v missed)).take
  else (s.beginOp .idle).take

/-- The reply of an eighth erase pulse, by what the block reads after it (R173). -/
def erasePulseReply (m : Nv) : Reply := if m = [] then ⟨.done, 8⟩ else ⟨.refused, 2⟩

/-- A setup erase pulse ends: the eighth erases the block, the others change nothing (R173). -/
def State.erasePulseEnded (s : State) (position : Nat) (owed : Bool) (unset : WordMasks) : State :=
  if position = 8 then
    let m := nvErase s.arrays.setup unset
    (((s.setArrays { s.arrays with setup := m }).beginOp .idle).answerOwed owed (erasePulseReply m)).take
  else (s.beginOp .idle).take

/-! ### An operation cut off (R134, R175) -/

/-- The bank after a cut-off word program: the word follows the AND of R113, but a header write may have left the bank DIRTY
(R134), its header at 0000h (log entry 36). -/
def cutWord (m : Nv) (w : WordOp) (c : Cut) : Nv :=
  if w.purpose = .header ∧ c.headerDirty then nvProgram Config.bankWords m w.address 0 0
  else nvProgram Config.bankWords m w.address w.value c.bits

/-- The bank after a cut-off erase: its header by the cut (log entry 26), its other words as far as they were erased. -/
def cutErase (m : Nv) (oldHeader : Word) (c : Cut) : Nv :=
  if c.condemning then nvWrite m 0 (programmedWord oldHeader 0 c.bits)
  else nvWrite (nvErase m c.unset) 0 (if c.headerErased then erasedWord else 0)

/-- What the arrays hold after a start or the loss of the supply cuts off the operation in progress (R134, R175). -/
def Arrays.cutOff (m : Arrays) (op : Operation) (c : Cut) : Arrays :=
  match op with
  | .idle => m
  | .word w => m.setBank w.bank (cutWord (m.bank w.bank) w c)
  | .bankErase b h => m.setBank b (cutErase (m.bank b) h c)
  | .pulse (.program i v k _) =>
    if k = 4 then { m with setup := nvProgram Config.setupWords m.setup i v c.bits } else m
  | .pulse (.erase k _) => if k = 8 then { m with setup := nvErase m.setup c.unset } else m

end Sys2Proof.Machine
end

