-- ==== Sys2Proof/Machine/Orders.lean ====
section
/-!
DEFINITION. The Order Unit (chapter 9) and the Readout Lock (chapter 10): taking an order, its answer, streams, the status
block (R155, R189), UNLOCK, and the open timer.
-/

namespace Sys2Proof.Machine

/-! ### The status block (R155, R189) -/

/-- The codes of R189. -/
def memberCode : MemberState → BitVec 3
  | .starting => 0 | .seeking => 1 | .joining => 2 | .member => 3 | .dormant => 4 | .withdrawn => 5

def causeCode : Cause → BitVec 3
  | .none => 0 | .number => 1 | .duplicate => 2 | .sync => 3 | .driver => 4

def setupFaultCode : SetupFault → BitVec 2
  | .none => 0 | .range => 1 | .check => 2

def lockCode : Lock → BitVec 2
  | .locked => 0 | .key1 => 1 | .key2 => 2 | .opened => 3

def slotCode : Slot → BitVec 2
  | .empty => 0 | .filling _ => 1 | .ready _ _ => 2 | .committing _ _ => 3

def bankCode : BankState → BitVec 3
  | .fresh => 0 | .opened => 1 | .closed => 2 | .dirty => 3 | .erasing => 4 | .bad => 5

def openBankCode : Option BankId → BitVec 2
  | some .bank0 => 0 | some .bank1 => 1 | none => 3

/-- IDLE, PROGRAMMING or ERASING (R131). -/
def operationCode : Operation → BitVec 2
  | .idle => 0 | .word _ => 1 | .pulse (.program _ _ _ _) => 1 | .pulse (.erase _ _) => 2 | .bankErase _ _ => 2

/-- Word k of the status block as it stands (R155). At a round end word 11 is the count handed over, which the line has not
yet moved on (R13, log entry 9). -/
def State.statusWord (s : State) (k : Nat) : Word :=
  match k with
  | 0 => memberCode s.membership.state ++ causeCode s.membership.cause ++ setupFaultCode s.setup.fault
      ++ lockCode s.lock ++ 0#6
  | 1 => flagBit (s.engine.state == .capturing) ++ flagBit s.engine.exhausted ++ flagBit s.monitors.alertPending
      ++ slotCode s.staging.slot0 ++ slotCode s.staging.slot1 ++ operationCode s.programmer.op
      ++ flagBit s.workWaiting ++ 0#6
  | 2 => s.engine.next
  | 3 => s.membership.number ++ BitVec.ofNat 2 s.membership.syncLosses ++ 0#9
  | 4 => rosterWord0 (s.membership.roster.toList.map fun r => r.present)
  | 5 => rosterWord1 (s.membership.roster.toList.map fun r => r.present)
  | 6 => bankCode s.store.bank0.state ++ bankCode s.store.bank1.state ++ openBankCode s.store.openBank
      ++ flagBit s.store.full ++ 0#7
  | 7 => BitVec.ofNat 16 (freeWords s.store)
  | 8 => BitVec.ofNat 16 s.store.unread
  | 9 => BitVec.ofNat 16 s.engine.missed
  | 10 => s.engine.firstMissed
  | _ => s.line.count.extractLsb' 8 16

/-! ### Replies and streams (R142, R147) -/

/-- A reply is loaded into the outbox. -/
def State.loadReply (s : State) (st : Status) (v : Word) : State :=
  s.setOrders { s.orders with outbox := some ⟨st, v⟩ }

/-- The stream's cursor stands at its last word (R147). -/
def Stream.atLast : Stream → Bool
  | .record _ _ n k _ => k + 1 == n
  | .status k => k + 1 == Config.statusWords

/-- The cursor moved on by one word. -/
def Stream.advance : Stream → Stream
  | .record b p n k q => .record b p n (k + 1) q
  | .status k => .status (k + 1)

/-- The stream's word, once read, is loaded as DATA or LAST (R147). -/
def State.loadStreamWord (s : State) (st : Stream) (v : Word) : State :=
  s.setOrders
    { s.orders with outbox := some ⟨if st.atLast then .last else .data, v⟩, stream := some st, read := .none }

/-- The word at a stream's cursor is read: loaded at once, unless a word program is in progress in its bank (R130,
R147). -/
def State.readStream (s : State) (st : Stream) : State :=
  match st with
  | .status k => s.loadStreamWord st (s.statusWord k)
  | .record b p _ k _ =>
    if s.programmer.programming b then s.setOrders { s.orders with stream := some st, read := .waiting }
    else s.loadStreamWord st (nvRead (s.arrays.bank b) (p + k))

/-- The read of a stream's word that had to wait completes: the word is loaded (R147). -/
def State.streamWordLoad (s : State) : State :=
  match s.orders.stream, s.orders.read with
  | some st, .ready v => s.loadStreamWord st v
  | _, _ => s

/-- The reply offered in a round was won (R142): the outbox is emptied unless R148 replaced it, and the stream goes on or
ends. -/
def State.replyDelivered (s : State) : State :=
  if s.orders.replaced then s
  else
    match s.orders.stream with
    | none => s.setOrders { s.orders with outbox := none }
    | some st =>
      if st.atLast then s.setOrders { s.orders with outbox := none, stream := none, read := .none }
      else (s.setOrders { s.orders with outbox := none }).readStream st.advance

/-! ### UNLOCK (R157 to R160) -/

/-- The class of the key in force (R157). -/
inductive KeyClass where
  | allOnes | allZeros | split
  deriving DecidableEq, Repr

/-- The class of a key. -/
def Key.classOf (k : Key) : KeyClass :=
  if k = ⟨0xFFFF, 0xFFFF, 0xFFFF⟩ then .allOnes else if k = ⟨0, 0, 0⟩ then .allZeros else .split

/-- A part compared with the key (R160). -/
def matchPart (part want : Word) (next : Lock) (r : Reply) : Lock × Reply :=
  if part = want then (next, r) else (.locked, ⟨.locked, 0⟩)

/-- The lock after an UNLOCK and its reply (R158 to R160). -/
def Lock.unlock (l : Lock) (k : Key) (part : Word) : Lock × Reply :=
  match k.classOf with
  | .allOnes => (.opened, ⟨.done, 3⟩)
  | .allZeros => (.locked, ⟨.refused, 3⟩)
  | .split =>
    match l with
    | .locked => matchPart part k.part1 .key1 ⟨.pending, 1⟩
    | .key1 => matchPart part k.part2 .key2 ⟨.pending, 2⟩
    | .key2 => matchPart part k.part3 .opened ⟨.done, 3⟩
    | .opened => (.opened, ⟨.done, 3⟩)

/-- A key sequence under way ends when the order taken is not UNLOCK (R140, R161). -/
def Lock.orderTaken (l : Lock) (code : OrderCode) : Lock :=
  match l with
  | .key1 | .key2 => if code = .unlock then l else .locked
  | .locked | .opened => l

/-! ### Taking an order (R139 to R141) -/

/-- The order taken at the end of a round, if any (R139). -/
def State.takenOrder (s : State) (r : Round) : Option (OrderCode × Word) :=
  if r.kind = .order ∧ checkGood .order r.body ∧ orderTarget r.body = s.membership.number
      ∧ s.membership.state = .member then
    some (orderCode r.body, orderArgument r.body)
  else none

/-- Whether an order keeps the setup pulse count (R140, step 5). -/
def Orders.keepsCount (o : Orders) (code : OrderCode) (arg : Word) : Bool :=
  match code with
  | .program => o.pulseIndex == some (.program arg.toNat)
  | .erase => arg == 2 && o.pulseIndex == some .erase
  | .fetch | .mark | .unlock | .relock | .load | .restart => false

/-- The pulse count set to 0 and its index cleared. -/
def Orders.clearCount (o : Orders) : Orders := { o with pulseCount := 0, pulseIndex := none }

/-- What the Order Unit does with every order it takes, before it handles it (R140). -/
def State.acceptOrder (s : State) (code : OrderCode) (arg : Word) : State :=
  let o := { s.orders.cleared with openTimer := 0 }
  ((s.setOrders (if s.orders.keepsCount code arg then o else o.clearCount)).setLock
    (s.lock.orderTaken code)).dropAnswers

/-- Whether an order needs the lock OPEN (section 9.1, R164). -/
def needsOpenLock (code : OrderCode) (arg : Word) : Bool :=
  match code with
  | .fetch => arg != 0xFFFF
  | .unlock | .relock => false
  | .mark | .load | .program | .erase | .restart => true

/-! ### The orders (R144 to R153, R170, R172) -/

/-- FETCH of a number (R144). -/
def State.fetchNumber (s : State) (n : Word) : State :=
  if s.staging.held n then s.loadReply .busy n
  else
    match findByNumber s.store s.arrays n with
    | none => s.loadReply .absent n
    | some x => s.readStream (.record x.1 x.2.position x.2.length 0 n)

/-- FETCH 0 (R145). -/
def State.fetchOldest (s : State) : State :=
  match oldestUnread s.store s.arrays with
  | none => s.loadReply .absent 0
  | some x => s.readStream (.record x.1 x.2.position x.2.length 0 (extentPrimary (s.arrays.bank x.1) x.2))

/-- MARK (R150). -/
def State.markOrder (s : State) (n : Word) : State :=
  if n = 0 then s.loadReply .refused 1
  else if n = 0xFFFF then s.loadReply .absent 0xFFFF
  else
    (s.setProgrammer { s.programmer with marks := s.programmer.marks ++ [⟨n, true⟩] }).setOrders
      { s.orders with awaited := some n }

/-- UNLOCK (R153, R160). -/
def State.unlockOrder (s : State) (part : Word) : State :=
  let u := s.lock.unlock s.settings.key part
  (s.setLock u.1).setOrders { s.orders with outbox := some u.2 }

/-- RELOCK (R151, R162). -/
def State.relockOrder (s : State) : State := (s.setLock .locked).loadReply .done 0

/-- LOAD (R151). -/
def State.loadOrder (s : State) (v : Word) : State :=
  s.setOrders { s.orders.clearCount with holding := v, outbox := some ⟨.done, v⟩ }

/-- A commit is writing a bank (R152), from its header write on. -/
def State.commitWriting (s : State) (b : BankId) : Bool :=
  match s.programmer.commit, s.programmer.op with
  | some c, _ => c.bank == b
  | none, .word w => w.purpose == .header && w.bank == b
  | none, .idle | none, .bankErase _ _ | none, .pulse _ => false

/-- ERASE of a bank (R152). -/
def State.eraseBank (s : State) (b : BankId) (arg : Word) : State :=
  if s.commitWriting b || s.bankErasing then s.loadReply .busy arg
  else (s.setStore (s.store.setPending b)).loadReply .pending arg

/-- A setup pulse is handed to the NV Programmer (R170, R172). -/
def State.handPulse (s : State) (p : Pulse) : State :=
  s.setProgrammer { s.programmer with pulses := s.programmer.pulses ++ [p] }

/-- A setup pulse that is not the last of its sequence: counted, handed and answered PENDING (R170, R172). -/
def State.pulsePending (s : State) (k : Nat) (i : PulseIndex) (p : Pulse) : State :=
  let r : Reply := ⟨.pending, BitVec.ofNat 16 k⟩
  (s.setOrders { s.orders with pulseCount := k, pulseIndex := some i, outbox := some r }).handPulse p

/-- The last pulse of a sequence: the count returns to 0 and the answer is owed (R170, R172). -/
def State.pulseLast (s : State) (w : Owed) (p : Pulse) : State :=
  ((s.setOrders s.orders.clearCount).setSetup { s.setup with owed := w }).handPulse p

/-- A setup pulse order met while a bank erase is in progress (R170, R172). -/
def State.pulseBusy (s : State) (arg : Word) : State := (s.setOrders s.orders.clearCount).loadReply .busy arg

/-- PROGRAM (R153, R170). -/
def State.programOrder (s : State) (i : Word) : State :=
  if 31 ≤ i.toNat then s.loadReply .refused 1
  else if s.bankErasing then s.pulseBusy i
  else if s.orders.pulseCount + 1 = 4 then
    s.pulseLast (.program i.toNat) (.program i.toNat s.orders.holding 4 true)
  else
    s.pulsePending (s.orders.pulseCount + 1) (.program i.toNat)
      (.program i.toNat s.orders.holding (s.orders.pulseCount + 1) false)

/-- ERASE 2 (R172). -/
def State.eraseSetupOrder (s : State) : State :=
  if s.bankErasing then s.pulseBusy 2
  else if s.orders.pulseCount + 1 = 8 then s.pulseLast .erase (.erase 8 true)
  else s.pulsePending (s.orders.pulseCount + 1) .erase (.erase (s.orders.pulseCount + 1) false)

/-- ERASE (R152). -/
def State.eraseOrder (s : State) (arg : Word) : State :=
  if arg = 0 then s.eraseBank .bank0 arg
  else if arg = 1 then s.eraseBank .bank1 arg
  else if arg = 2 then s.eraseSetupOrder
  else s.loadReply .refused 1

/-- FETCH by its argument (R144 to R146). -/
def State.fetchOrder (s : State) (n : Word) : State :=
  if n = 0xFFFF then s.readStream (.status 0) else if n = 0 then s.fetchOldest else s.fetchNumber n

/-- An order refused by the lock (R141, R164). -/
def State.refuseLocked (s : State) : State := (s.setOrders s.orders.clearCount).loadReply .locked 0

/-- An order accepted is handled. A RESTART that the lock lets through is a start and never comes here (R154). -/
def State.handleOrder (s : State) (code : OrderCode) (arg : Word) : State :=
  if needsOpenLock code arg && s.lock != .opened then s.refuseLocked
  else
    match code with
    | .fetch => s.fetchOrder arg
    | .mark => s.markOrder arg
    | .unlock => s.unlockOrder arg
    | .relock => s.relockOrder
    | .load => s.loadOrder arg
    | .program => s.programOrder arg
    | .erase => s.eraseOrder arg
    | .restart => s

/-! ### The open timer and the round end (R142, R156) -/

/-- The open timer at a round end with no order taken (R156, R162). -/
def State.openTimerRoundEnd (s : State) : State :=
  match s.settings.openTimeout with
  | none => s
  | some t =>
    if s.membership.state = .member ∧ s.lock = .opened then
      if t ≤ s.orders.openTimer + 1 then (s.setOrders { s.orders with openTimer := 0 }).setLock .locked
      else s.setOrders { s.orders with openTimer := s.orders.openTimer + 1 }
    else s

/-- The station's own reply was won in this round (R142). -/
def replyWon (o : Offers) (out : OfferOutcome) : Bool :=
  match o.kind, out with
  | .reply _, .won => true
  | _, _ => false

/-- The Order Unit at a round end: an order taken, or the open timer and the fate of its own reply. -/
def State.ordersRoundEnd (s : State) (order : Option (OrderCode × Word)) (won : Bool) : State :=
  match order with
  | some x => (s.acceptOrder x.1 x.2).handleOrder x.1 x.2
  | none =>
    let s := s.openTimerRoundEnd
    if won then s.replyDelivered else s

end Sys2Proof.Machine
end

