-- ==== Sys2Proof/Machine/Setup.lean ====
section
/-!
DEFINITION. Validation of the setup block (section 11.2): the layout of R190, the check of R166, the range checks of R167
and the defaults of R168.
-/

namespace Sys2Proof.Machine

/-- A field of a word: `n` bits from bit `lo` up. -/
def field (w : Word) (lo n : Nat) : Nat := (w.extractLsb' lo n).toNat

/-- One of four values by a two-bit code (R190). -/
def coded {α : Type} (c : Nat) (v0 v1 v2 v3 : α) : α :=
  if c = 0 then v0 else if c = 1 then v1 else if c = 2 then v2 else v3

/-- Survey entry k as stored: two to a word from word 3 (R190). -/
def surveyEntryCode (r : Nat → Word) (k : Nat) : Nat := field (r (3 + k / 2)) (12 - 4 * (k % 2)) 4

/-- Burst entry k as stored, in word 9 (R190). -/
def burstEntryCode (r : Nat → Word) (k : Nat) : Nat := field (r 9) (12 - 4 * k) 4

/-- An input by its code; a code past 9 is out of range and never reaches the working copy (R167). -/
def inputOfCode (c : Nat) : Input := if h : c < 10 then ⟨c, h⟩ else 0

/-- The window of input i as stored (R190). -/
def storedWindow (r : Nat → Word) (i : Nat) : Window :=
  ⟨(r (10 + 2 * i)).extractLsb' 0 12, (r (11 + 2 * i)).extractLsb' 0 12⟩

/-- The key as stored (R190). -/
def storedKey (r : Nat → Word) : Key := ⟨r 27, r 28, r 29⟩

def storedN (r : Nat → Word) : Nat := field (r 1) 12 4
def storedS (r : Nat → Word) : Nat := field (r 1) 8 4
def storedB (r : Nat → Word) : Nat := field (r 2) 10 2 + 1
def storedSense (r : Nat → Word) : Nat := field (r 2) 4 4

/-- The settings as stored (R190), for a block whose range checks pass. -/
def storedSettings (r : Nat → Word) : Settings where
  slotRate := coded (field (r 0) 14 2) 5000 10000 20000 40000
  rollPeriod := coded (field (r 0) 12 2) 64 256 1024 4096
  policy := if (r 0).getLsbD 11 then .keep else .overwrite
  dormancyAllowed := !(r 0).getLsbD 10
  wakeThree := (r 0).getLsbD 9
  pinMode := if (r 0).getLsbD 8 then .level else .pulse
  openTimeout := coded (field (r 0) 6 2) (some 1024) (some 4096) (some 16384) none
  survey := (List.range (storedN r)).map fun k => inputOfCode (surveyEntryCode r k)
  segment := storedS r
  trip := field (r 1) 6 2 + 1
  ringCapacity := field (r 1) 2 4
  postLength := field (r 2) 12 4 + 1
  burst := (List.range (storedB r)).map fun k => inputOfCode (burstEntryCode r k)
  density := coded (field (r 2) 8 2) 1 2 4 1
  senseInput := if h : storedSense r < 8 then ⟨storedSense r, h⟩ else 0
  sensePeriod := coded (field (r 2) 2 2) 16 64 256 1024
  forcedWake := coded (field (r 2) 0 2) none (some 1) (some 10) (some 60)
  windows := Vector.ofFn fun i => storedWindow r i.val
  sampleTimes := Vector.ofFn fun i => coded (field (r 26) (14 - 2 * i.val) 2) 4 8 16 32
  key := storedKey r

/-- The range checks (R167). -/
def inRange (r : Nat → Word) : Bool :=
  decide (1 ≤ storedN r) && decide (storedN r ≤ 12)
    && decide (1 ≤ storedS r) && decide (storedS r ≤ storedN r)
    && decide (field (r 2) 8 2 ≠ 3)
    && (List.range (storedN r)).all (fun k => decide (surveyEntryCode r k < 10))
    && (List.range (storedB r)).all (fun k => decide (burstEntryCode r k < 10))
    && (List.range 8).all (fun i => decide ((storedWindow r i).low ≤ (storedWindow r i).high))
    && decide (storedSense r < 8)

/-- The check of the block (R166): an erased block fails, whatever its CRC. -/
def setupCheckGood (m : Nv) : Bool :=
  m != [] && crc16 ((List.range 30).map (nvRead m)) == nvRead m 30

/-- What validation forms: the working copy and the setup fault (R166, R167). -/
def validateSetup (m : Nv) : Settings × SetupFault :=
  if setupCheckGood m then
    if inRange (nvRead m) then (storedSettings (nvRead m), .none)
    else (defaultSettings (storedKey (nvRead m)), .range)
  else (defaultSettings openKey, .check)

end Sys2Proof.Machine
end

