-- ==== Sys2Proof/Machine/Starts.lean ====
section
/-!
DEFINITION. Starts and the loss of the supply (R1, R24, R134, R154, R175), the end of setup validation (R166) and the
start-up scan (R135 to R138).
-/

namespace Sys2Proof.Machine

/-- The membership as the straps leave it at a start (R24). -/
def startMembership (straps : BitVec 5) : Membership :=
  if straps = 31 then { State.reset.membership with number := straps, state := .withdrawn, cause := .number }
  else { State.reset.membership with number := straps }

/-- The station at a start: every block at its start values, the arrays as the cut left them (R1, R134, R175). -/
def State.started (s : State) (i : StartInputs) : State :=
  { State.reset with
    pins := { State.reset.pins with straps := i.straps }
    membership := startMembership i.straps
    arrays := s.arrays.cutOff s.programmer.op i.cut
    pending := s.pending }

/-- The station without power: only the arrays last (R113, R134). -/
def State.unpowered (s : State) (c : Cut) : State :=
  { State.reset with
    powered := false
    arrays := s.arrays.cutOff s.programmer.op c
    pending := s.pending }

/-- Validation of the setup block ends (R165 to R168). -/
def State.setupValidation (s : State) : State :=
  if s.setup.validated then s
  else
    let v := validateSetup s.arrays.setup
    (s.setSetup { s.setup with working := v.1, fault := v.2, validated := true }).leaveStarting

/-- A stage of the scan has read its words; the programmer, if IDLE, takes what it queued at once (R133). -/
def State.scanStage (s : State) : State :=
  match s.store.scan.stage with
  | .classify b => (s.setStore (s.store.scanClassify b (s.arrays.bank b))).take
  | .walk b p => (s.setStore (s.store.scanWalk b (s.arrays.bank b) p)).take
  | .decide => s

/-- The scan's stages one after another, at most `fuel` of them, until only the decision is left. -/
def State.scanThrough : Nat → State → State
  | 0, s => s
  | fuel + 1, s => if s.store.scan.stage = .decide then s else State.scanThrough fuel s.scanStage

/-- More stages than any scan has: each position of a walk is a stage at most once. -/
def scanStages : Nat := 4 * Config.bankWords

/-- The scan ends: the bank states decided, NEXT set, and STARTING left once validation has ended too (R24, R137,
R138). -/
def State.scanEnd (s : State) : State :=
  ((s.setStore { s.store.scanDecide with scanned := true, scan := Scan.first }).setEngine
    { s.engine with next := nextFromGreatest s.store.scan.greatest }).leaveStarting

/-- The start-up scan ends: the stages it still has, one after another, then the end (R135 to R138, log entry 14). -/
def State.startupScan (s : State) : State :=
  if s.store.scanned then s else (State.scanThrough scanStages s).scanEnd

end Sys2Proof.Machine
end

