-- ==== Sys2Proof/Machine/Rounds.lean ====
section
/-!
DEFINITION. A round of the station: its mark slot (R6), its burst points and conversions (R47, R52 to R56), and its end
(R13) with every block's reaction in one fixed order (log entry 9).
-/

namespace Sys2Proof.Machine

/-! ### The mark slot (R6) -/

/-- The kind the station offers: the lowest its blocks want (R6, R26, R37, R76, R142). -/
def State.kindOffer (s : State) (code : BitVec 16) : KindOffer :=
  match s.membership.state with
  | .joining => .probe code
  | .member =>
    if s.engine.due then .incident s.incidentOffer
    else if s.wantsRoll then .roll
    else
      match s.orders.outbox with
      | some r => .reply r
      | none => .none
  | .starting | .seeking | .dormant | .withdrawn => .none

/-- The offers taken at a mark slot (R6, R26, R27, R38, R51, R74, R77, R177). -/
def State.takeOffers (s : State) (code : BitVec 16) : Offers where
  kind := s.kindOffer code
  banner := ⟨s.pullsAlert, s.pullsStay⟩
  member := s.membership.state == .member
  storeFull := s.store.full
  claims := s.membership.state == .member && s.engine.due && s.claimsPlace
  captureRound := s.engine.state == .capturing

/-- A mark slot begins (R5, R6): the offers are taken, the survey segment begins (R47), and a capture round adds its
burst block (R101). -/
def State.markSlot (s : State) (code : BitVec 16) : State :=
  if s.line.align == .aligned && s.onLine && s.line.round.isNone then
    let o := s.takeOffers code
    (((s.setLine { s.line with round := some o, position := 0, phase := .q1, phaseTime := 0 }).setOrders
      { s.orders with replaced := false }).setSequencer (beginSegment s.settings o.captureRound s.sequencer)).setStaging
        (if o.captureRound then s.staging.updateFilling addBlock else s.staging)
  else s

/-! ### Conversions -/

/-- Burst point d is the next to come: of a capture round, or point 0 of the round whose mark slot comes at the same
instant (R51, log entry 10). -/
def State.atBurstPoint (s : State) (d : Nat) : Bool :=
  s.line.align == .aligned && s.line.nextBurstPoint s.settings.density == some d
    && match s.line.round with
      | some o => o.captureRound
      | none => d == 0 && s.line.position == 0 && s.engine.state == .capturing

/-- The converter taken for repetition d, which displaces the survey; skipped while the one before is in flight (R52,
R54). -/
def State.beginRepetition (s : State) (d : Nat) : State :=
  if s.sequencer.repetition.isNone then
    s.setSequencer
      { s.sequencer with
        converter := .burst, elapsed := 0, repetition := some ⟨s.engine.primary, s.engine.captured, d, 0⟩ }
  else s

/-- A burst point: the line stands at the start of its slot (R51), and its repetition begins or is skipped (R52, R54). -/
def State.burstPoint (s : State) (d : Nat) : State :=
  if s.atBurstPoint d then (s.setLine (s.line.atPoint s.settings.density d)).beginRepetition d else s

/-- A survey conversion completes (R47, R50, R58). -/
def State.surveyConversionDone (s : State) (x : Sample) : State :=
  match s.sequencer.converter, s.sequencer.pass with
  | .survey, some p =>
    match nextEntry s.settings p with
    | some i =>
      let s := s.setSequencer (surveySample s.settings i p x s.sequencer)
      if h : i.val < 8 then s.setMonitors (submitSample s.settings ⟨i.val, h⟩ x s.monitors).1 else s
    | none => s
  | _, _ => s

/-- The converter after a burst conversion: the next entry of the repetition, or the survey again (R52). -/
def afterBurst (st : Settings) (r : Repetition) (q : Sequencer) : Sequencer :=
  if r.e + 1 < st.burst.length then { q with repetition := some { r with e := r.e + 1 }, elapsed := 0 }
  else resumeSurvey st { q with repetition := none }

/-- A burst conversion completes: its value goes to the FILLING slot (R56, R101, R102). -/
def State.burstConversionDone (s : State) (x : Sample) : State :=
  match s.sequencer.converter, s.sequencer.repetition with
  | .burst, some r =>
    let v := burstValue (s.sequencer.baselines.getD r.e none) x
    (s.setStaging (s.staging.updateFilling (placeBurst r v))).setSequencer (afterBurst s.settings r s.sequencer)
  | _, _ => s

/-! ### The reactions to a round end (R13) -/

/-- The next round's count (R14, R15). -/
def nextCount (count : RoundCount) (r : Round) : RoundCount :=
  if r.kind = .epoch ∧ checkGood .epoch r.body then epochValue r.body else count + 1

/-- The Line Interface past the round: the offers are dropped, the next mark slot begins (R5, R13). -/
def State.lineRoundEnd (s : State) : State :=
  s.setLine { s.line with round := none, burstPoints := 0, position := 0, phase := .q1, phaseTime := 0 }

/-- The round count moves on (R14, R15), once every block that needs the count of the round that has ended has reacted
to it (R13). -/
def State.advanceCount (s : State) (r : Round) : State := s.setLine { s.line with count := nextCount s.line.count r }

/-- The ring restates its counts after an EPOCH round (R66). -/
def State.ringRoundEnd (s : State) (r : Round) : State :=
  if r.kind = .epoch ∧ checkGood .epoch r.body then s.setRing (ringRestate (epochValue r.body) s.ring) else s

/-- What becomes of a joiner's PROBE offer (R28). -/
inductive ProbeResult where
  | stay | admitted | duplicate
  deriving DecidableEq, Repr

/-- The table of R28; the last row, a bad check, goes first. -/
def probeResult (r : Round) (out : OfferOutcome) : ProbeResult :=
  if r.kind = .probe ∧ !checkGood .probe r.body then .stay
  else
    match out with
    | .none | .lostKind => .stay
    | .withdrew k => if 5 ≤ k ∧ k ≤ 20 then .duplicate else .stay
    | .won => if defendPulled r.body then .duplicate else .admitted

/-- A joiner is admitted: MEMBER, its own roster entry PRESENT (R29). -/
def Membership.becomeMember (m : Membership) : Membership :=
  { m with state := .member, roster := m.roster.setIfInBounds m.number.toNat ⟨true, 0⟩ }

/-- One roster entry at a ROLL round end (R40). -/
def RosterEntry.roll (e : RosterEntry) (pulled : Bool) : RosterEntry :=
  if pulled then ⟨true, 0⟩
  else if e.present then (if e.misses < 2 then { e with misses := e.misses + 1 } else ⟨false, 0⟩)
  else ⟨false, 0⟩

/-- The Membership Controller at a ROLL round end (R39, R40). -/
def Membership.rolled (m : Membership) (body : Body) : Membership :=
  { m with
    rollTimer := 0
    syncLosses := if m.state = .member then 0 else m.syncLosses
    roster := m.roster.mapIdx fun k e => e.roll (rollPulled body k) }

/-- The roll timer at a round end as MEMBER that is not a ROLL round's (R37). -/
def Membership.countRoll (m : Membership) (period : Nat) : Membership :=
  if m.state = .member then { m with rollTimer := min (m.rollTimer + 1) period } else m

/-- The Membership Controller at a round end: a joiner's PROBE (R28, R29), a ROLL round (R39, R40), or the roll timer
(R37). -/
def State.membershipRoundEnd (s : State) (o : Offers) (r : Round) (out : OfferOutcome) : State :=
  match s.membership.state, o.kind with
  | .joining, .probe _ =>
    match probeResult r out with
    | .duplicate => s.withdraw .duplicate
    | .admitted => s.setMembership s.membership.becomeMember
    | .stay => if r.kind = .roll then s.setMembership (s.membership.rolled r.body) else s
  | _, _ =>
    if r.kind = .roll then s.setMembership (s.membership.rolled r.body)
    else s.setMembership (s.membership.countRoll s.settings.rollPeriod)

/-- The ALERT pin at a round end (R93, R94); `was`: the incident state before it. -/
def State.pinsAfterRound (s : State) (r : Round) (was : IncidentState) : State :=
  let incident := r.kind == .incident && s.membership.state == .member
  let ended := was == .capturing && s.engine.state == .idle
  s.setPins (pinsRoundEnd s.settings.pinMode incident ended s.engine.state s.pins)

/-- The reactions of every block but the Order Unit, the Rest Controller and the NV Programmer to a round end (R13). -/
def State.beforeOrders (s : State) (o : Offers) (r : Round) (out : OfferOutcome) : State :=
  let t := (s.completePass.lineRoundEnd.ringRoundEnd r).membershipRoundEnd o r out
  let t := t.engineRoundEnd o r (t.membership.state == .member) s.line.count
  (t.pinsAfterRound r s.engine.state).dueRoundEnd r.banner.alert

/-- The round count, the Rest Controller and the NV Programmer at a round end (R14, R132, R178). -/
def State.afterOrders (s : State) (r : Round) : State := ((s.advanceCount r).restRoundEnd r).take

/-- Every block reacts to the end of a round that was neither a driver fault nor a RESTART taken (R13). -/
def State.closeRound (s : State) (o : Offers) (r : Round) (out : OfferOutcome) : State :=
  ((s.beforeOrders o r out).ordersRoundEnd (s.takenOrder r) (replyWon o out)).afterOrders r

/-- The order a round end carries is a RESTART that the lock lets through (R141, R154). -/
def State.restarts (s : State) (r : Round) : Bool :=
  match s.takenOrder r with
  | some (.restart, _) => s.lock == .opened
  | some _ | none => false

/-- The end of a round (R13). A round whose mark slot did not begin as ALIGNED raises no round end: in such a round the round
count stays at an EPOCH's end (R15), roll timer and roster at a ROLL's (R39, R40) and NEXT at an INCIDENT's (R80) too, which
is the model's choice (log entry 35). A 0 sent that the line does not carry is a driver fault (R12); a RESTART taken is a
start (R154). -/
def State.roundEnd (s : State) (r : Round) (i : StartInputs) : State :=
  if s.line.align == .aligned && s.onLine then
    match s.line.round with
    | none => s.setLine { s.line with burstPoints := 0, position := 0, phase := .q1, phaseTime := 0 }
    | some o =>
      match settleOffer s.membership.number o r with
      | none => s.driverFault
      | some out => if s.restarts r then s.started i else s.closeRound o r out
  else s

/-- The start inputs of a round end that cannot be a RESTART's. -/
def noStart : StartInputs := ⟨0, ⟨0, false, false, [], false⟩⟩

/-- The end of a round of a given kind. -/
def State.roundOfKind (s : State) (k : Kind) (banner : Banner) (body : Body) : State := s.roundEnd ⟨k, banner, body⟩ noStart

/-- The end of a round whose body is an order to this station (R139). -/
def State.orderToStation (s : State) (banner : Banner) (code : OrderCode) (arg : Word) (i : StartInputs) : State :=
  s.roundEnd ⟨.order, banner, orderBody s.membership.number code arg⟩ i

/-! ### The round ends at which something comes due -/

/-- A round end is raised: the round's mark slot began as ALIGNED (R13). -/
def State.inRound (s : State) : Bool := s.line.align == .aligned && s.onLine && s.line.round.isSome

/-- The roll timer comes to the roll period at this round end (R37). -/
def State.rollComesDue (s : State) (r : Round) : Bool :=
  s.inRound && s.membership.state == .member && r.kind != .roll
    && s.membership.rollTimer + 1 == s.settings.rollPeriod

/-- The open timer comes to the open timeout at this round end (R156). -/
def State.openTimerComesDue (s : State) (r : Round) : Bool :=
  s.inRound && s.membership.state == .member && s.lock == .opened && (s.takenOrder r).isNone
    && s.settings.openTimeout == some (s.orders.openTimer + 1)

/-- Remaining rounds stands at 0 at this capture round end (R86), once R85 and, for an INCIDENT round, R88 and R89 have
acted. -/
def State.captureComesToEnd (s : State) (r : Round) : Bool :=
  s.inRound && (match s.line.round with
    | some o => o.captureRound
    | none => false)
    && s.engine.state == .capturing
    && (let e := countCaptureRound s.engine
        (if r.kind = .incident then mergeAndExtend (readAgreement r.body) e else e).remaining == 0)

/-- The rest count comes to 32 at this round end as MEMBER (R178). -/
def State.restComesDue (s : State) (r : Round) : Bool :=
  s.inRound && s.membership.state == .member && !r.banner.stay && s.rest.count + 1 == Config.restRounds

/-- A round end that is the event a row names, or no event of that row (log entry 6). -/
def State.roundEndIf (s : State) (due : Bool) (r : Round) (i : StartInputs) : State :=
  if due then s.roundEnd r i else s

end Sys2Proof.Machine
end

