-- ==== Sys2Proof/Machine/Commands.lean ====
section
/-!
DEFINITION. The meaning of every command, family by family: one definition each, over the operations of the blocks.
-/

namespace Sys2Proof.Machine

/-! ### Operations that end -/

/-- The word program in progress lies past the end of its bank. -/
def State.programsOutside (s : State) : Bool :=
  s.powered && match s.programmer.op with
    | .word w => decide (Config.bankWords ≤ w.address)
    | .idle | .bankErase _ _ | .pulse _ => false

/-- One attempt of the word program in progress, if any, ends (R114). -/
def State.wordProgramDone (s : State) (missed : Word) : State :=
  match s.programmer.op with
  | .word w => s.attemptEnded w missed
  | .idle | .bankErase _ _ | .pulse _ => s

/-- The bank erase in progress, if any, ends (R115). -/
def State.bankEraseDone (s : State) (unset : WordMasks) (missed : Word) : State :=
  match s.programmer.op with
  | .bankErase b _ => s.bankEraseEnded b unset missed
  | .idle | .word _ | .pulse _ => s

/-- The setup program pulse in progress, if any, ends (R171). -/
def State.setupProgramPulseDone (s : State) (missed : Word) : State :=
  match s.programmer.op with
  | .pulse (.program i v k owed) => s.programPulseEnded i v k owed missed
  | .idle | .word _ | .bankErase _ _ | .pulse (.erase _ _) => s

/-- The setup erase pulse in progress, if any, ends (R173). -/
def State.setupErasePulseDone (s : State) (unset : WordMasks) : State :=
  match s.programmer.op with
  | .pulse (.erase k owed) => s.erasePulseEnded k owed unset
  | .idle | .word _ | .bankErase _ _ | .pulse (.program _ _ _ _) => s

/-- The ALERT pulse in progress, if any, ends and the pin is released (R93). -/
def State.alertPulseEnd (s : State) : State :=
  if s.pins.alertPulse.isSome then s.setPins { s.pins with alertLow := false, alertPulse := none } else s

/-! ### Starts -/

/-- START (R1, R24, R134, R175). -/
def execStart (i : StartInputs) (s : State) : Host.Outcome State Fault Refusal :=
  .next (s.started i).refreshFault

/-- SETUP_VALIDATION (R165 to R169). -/
def execSetupValidation (s : State) : Host.Outcome State Fault Refusal :=
  act s fun s => s.setupValidation

/-- STARTUP_SCAN (R135 to R138). -/
def execStartupScan (s : State) : Host.Outcome State Fault Refusal :=
  act s fun s => s.startupScan

/-- POWER_LOSS (R113, R134). -/
def execPowerLoss (cut : Cut) (s : State) : Host.Outcome State Fault Refusal :=
  .next (s.unpowered cut)

/-! ### The line outside the rounds -/

/-- ALIGN_BY_MARKS (R17, R25). -/
def execAlignByMarks (s : State) : Host.Outcome State Fault Refusal :=
  act s fun s => s.alignByMarks

/-- MARK_SEARCH_EDGE (R17, R18). -/
def execMarkSearchEdge (interval : Nat) (s : State) : Host.Outcome State Fault Refusal :=
  act s fun s => s.markSearchEdge interval

/-- SILENCE_TIMER_EXPIRY (R18). -/
def execSilenceTimerExpiry (lineHigh : Bool) (draw : BitVec 6) (s : State) : Host.Outcome State Fault Refusal :=
  act s fun s => s.silenceTimerExpiry lineHigh draw

/-- EDGE_DURING_BACKOFF (R19). -/
def execEdgeDuringBackoff (fell : Bool) (s : State) : Host.Outcome State Fault Refusal :=
  act s fun s => s.edgeDuringBackoff fell

/-- OPEN_LINE (R19, R25). -/
def execOpenLine (s : State) : Host.Outcome State Fault Refusal :=
  act s fun s => s.openLine

/-- FOREIGN_PULSE (R4, R20, R30, R31). -/
def execForeignPulse (edge : LineEdge) (s : State) : Host.Outcome State Fault Refusal :=
  act s fun s => s.lineEdge edge

/-- DRIVER_FAULT (R12, R33). -/
def execDriverFault (s : State) : Host.Outcome State Fault Refusal :=
  act s fun s => s.driverFaultFound

/-- LINE_RISE (R19, R23). -/
def execLineRise (s : State) : Host.Outcome State Fault Refusal :=
  act s fun s => s.lineRise

/-! ### Within a round -/

/-- MARK_SLOT (R6, R47, R101). -/
def execMarkSlot (code : BitVec 16) (s : State) : Host.Outcome State Fault Refusal :=
  act s fun s => s.markSlot code

/-- BURST_POINT (R51, R52, R54). -/
def execBurstPoint (d : Fin 4) (s : State) : Host.Outcome State Fault Refusal :=
  act s fun s => s.burstPoint d.val

/-- SURVEY_CONVERSION_DONE (R47, R50, R58). -/
def execSurveyConversionDone (x : Sample) (s : State) : Host.Outcome State Fault Refusal :=
  act s fun s => s.surveyConversionDone x

/-- BURST_CONVERSION_DONE (R52, R56, R102). -/
def execBurstConversionDone (x : Sample) (s : State) : Host.Outcome State Fault Refusal :=
  act s fun s => s.burstConversionDone x

/-! ### Round ends by the kind read -/

/-- QUIET_ROUND (R8): kind 7, or kind 6. -/
def execQuietRound (banner : Banner) (unassigned : Bool) (body : Body) (s : State) : Host.Outcome State Fault Refusal :=
  act s fun s => s.roundOfKind (if unassigned then .unassigned else .quiet) banner body

/-- INCIDENT_ROUND (R79 to R90). -/
def execIncidentRound (banner : Banner) (body : Body) (s : State) : Host.Outcome State Fault Refusal :=
  act s fun s => s.roundOfKind .incident banner body

/-- PROBE_ROUND (R28, R29). -/
def execProbeRound (banner : Banner) (body : Body) (s : State) : Host.Outcome State Fault Refusal :=
  act s fun s => s.roundOfKind .probe banner body

/-- ROLL_ROUND (R39, R40). -/
def execRollRound (banner : Banner) (body : Body) (s : State) : Host.Outcome State Fault Refusal :=
  act s fun s => s.roundOfKind .roll banner body

/-- EPOCH_ROUND (R15, R66). -/
def execEpochRound (banner : Banner) (body : Body) (s : State) : Host.Outcome State Fault Refusal :=
  act s fun s => s.roundOfKind .epoch banner body

/-- REPLY_ROUND (R142). -/
def execReplyRound (banner : Banner) (body : Body) (s : State) : Host.Outcome State Fault Refusal :=
  act s fun s => s.roundOfKind .reply banner body

/-- ORDER_ROUND (R139). -/
def execOrderRound (banner : Banner) (body : Body) (i : StartInputs) (s : State) : Host.Outcome State Fault Refusal :=
  act s fun s => s.roundEnd ⟨.order, banner, body⟩ i

/-! ### Round ends at which something comes due -/

/-- ROLL_TIMER_DUE (R37). -/
def execRollTimerDue (r : Round) (i : StartInputs) (s : State) : Host.Outcome State Fault Refusal :=
  act s fun s => s.roundEndIf (s.rollComesDue r) r i

/-- OPEN_TIMER_EXPIRY (R156, R162). -/
def execOpenTimerExpiry (r : Round) (i : StartInputs) (s : State) : Host.Outcome State Fault Refusal :=
  act s fun s => s.roundEndIf (s.openTimerComesDue r) r i

/-- CAPTURE_END (R86, R103). -/
def execCaptureEnd (r : Round) (i : StartInputs) (s : State) : Host.Outcome State Fault Refusal :=
  act s fun s => s.roundEndIf (s.captureComesToEnd r) r i

/-- ENTER_DORMANT (R178, R179). -/
def execEnterDormant (r : Round) (i : StartInputs) (s : State) : Host.Outcome State Fault Refusal :=
  act s fun s => s.roundEndIf (s.restComesDue r) r i

/-! ### Orders to this station -/

/-- FETCH (R144). -/
def execFetch (banner : Banner) (n : Word) (s : State) : Host.Outcome State Fault Refusal :=
  act s fun s => s.orderToStation banner .fetch n noStart

/-- FETCH_OLDEST_UNREAD (R145). -/
def execFetchOldestUnread (banner : Banner) (s : State) : Host.Outcome State Fault Refusal :=
  act s fun s => s.orderToStation banner .fetch 0 noStart

/-- FETCH_STATUS (R146). -/
def execFetchStatus (banner : Banner) (s : State) : Host.Outcome State Fault Refusal :=
  act s fun s => s.orderToStation banner .fetch 0xFFFF noStart

/-- MARK (R150). -/
def execMark (banner : Banner) (n : Word) (s : State) : Host.Outcome State Fault Refusal :=
  act s fun s => s.orderToStation banner .mark n noStart

/-- UNLOCK (R158 to R160). -/
def execUnlock (banner : Banner) (part : Word) (s : State) : Host.Outcome State Fault Refusal :=
  act s fun s => s.orderToStation banner .unlock part noStart

/-- RELOCK (R151, R162). -/
def execRelock (banner : Banner) (arg : Word) (s : State) : Host.Outcome State Fault Refusal :=
  act s fun s => s.orderToStation banner .relock arg noStart

/-- LOAD (R151). -/
def execLoad (banner : Banner) (value : Word) (s : State) : Host.Outcome State Fault Refusal :=
  act s fun s => s.orderToStation banner .load value noStart

/-- PROGRAM (R153, R170). -/
def execProgram (banner : Banner) (word : Word) (s : State) : Host.Outcome State Fault Refusal :=
  act s fun s => s.orderToStation banner .program word noStart

/-- ERASE (R152). -/
def execErase (banner : Banner) (arg : Word) (s : State) : Host.Outcome State Fault Refusal :=
  act s fun s => s.orderToStation banner .erase arg noStart

/-- ERASE_SETUP_PULSE (R172). -/
def execEraseSetupPulse (banner : Banner) (s : State) : Host.Outcome State Fault Refusal :=
  act s fun s => s.orderToStation banner .erase 2 noStart

/-- RESTART (R154). -/
def execRestart (banner : Banner) (arg : Word) (i : StartInputs) (s : State) : Host.Outcome State Fault Refusal :=
  act s fun s => s.orderToStation banner .restart arg i

/-- STREAM_WORD_LOAD (R147). -/
def execStreamWordLoad (s : State) : Host.Outcome State Fault Refusal :=
  act s fun s => s.streamWordLoad

/-- ALERT_PULSE_END (R93). -/
def execAlertPulseEnd (s : State) : Host.Outcome State Fault Refusal :=
  act s fun s => s.alertPulseEnd

/-! ### The non-volatile arrays -/

/-- WORD_PROGRAM_DONE (R114, R118, R121 to R123, R128, R132). A word past the end of its bank does not exist (log entry 25). -/
def execWordProgramDone (missed : Word) (s : State) : Host.Outcome State Fault Refusal :=
  if s.programsOutside then .fault .addressOutsideBank
  else act s fun s => s.wordProgramDone missed

/-- BANK_ERASE_DONE (R115, R129). -/
def execBankEraseDone (unset : WordMasks) (missed : Word) (s : State) : Host.Outcome State Fault Refusal :=
  act s fun s => s.bankEraseDone unset missed

/-- SETUP_PROGRAM_PULSE_DONE (R171). -/
def execSetupProgramPulseDone (missed : Word) (s : State) : Host.Outcome State Fault Refusal :=
  act s fun s => s.setupProgramPulseDone missed

/-- SETUP_ERASE_PULSE_DONE (R173). -/
def execSetupErasePulseDone (unset : WordMasks) (s : State) : Host.Outcome State Fault Refusal :=
  act s fun s => s.setupErasePulseDone unset

/-! ### Rest and wake -/

/-- SENSE_TIMER_EXPIRY (R180). -/
def execSenseTimerExpiry (s : State) : Host.Outcome State Fault Refusal :=
  act s fun s => s.senseTimerExpiry

/-- SENSE_CONVERSION_DONE (R62, R183). -/
def execSenseConversionDone (x : Sample) (s : State) : Host.Outcome State Fault Refusal :=
  act s fun s => s.senseConversionDone x

/-- FORCED_WAKE_EXPIRY (R181, R183). -/
def execForcedWakeExpiry (s : State) : Host.Outcome State Fault Refusal :=
  act s fun s => s.forcedWakeExpiry

/-- WAKE_PATTERN_END (R22, R184). -/
def execWakePatternEnd (s : State) : Host.Outcome State Fault Refusal :=
  act s fun s => s.wakePatternEnd

/-- LONG_LOW (R23, R182, R184). -/
def execLongLow (s : State) : Host.Outcome State Fault Refusal :=
  act s fun s => s.longLow

/-- LONG_LOW_TIMING_START (R23). -/
def execLongLowTimingStart (s : State) : Host.Outcome State Fault Refusal :=
  act s fun s => s.longLowTimingStart

/-- PATTERN_WINDOW_EXPIRY (R182). -/
def execPatternWindowExpiry (s : State) : Host.Outcome State Fault Refusal :=
  act s fun s => s.patternWindowExpiry

end Sys2Proof.Machine
end

