-- ==== Sys2Proof/Machine/Dispatch.lean ====
section
/-!
DEFINITION. One arm per command: the meaning it calls.
-/

namespace Sys2Proof.Machine

def exec (i : Instr) (s : State) : Host.Outcome State Fault Refusal :=
  match i with
  -- Starts
  | .start inputs => Sys2Proof.Machine.execStart inputs s
  | .setupValidation => Sys2Proof.Machine.execSetupValidation s
  | .startupScan => Sys2Proof.Machine.execStartupScan s
  | .powerLoss cut => Sys2Proof.Machine.execPowerLoss cut s
  -- The line outside the rounds
  | .alignByMarks => Sys2Proof.Machine.execAlignByMarks s
  | .markSearchEdge interval => Sys2Proof.Machine.execMarkSearchEdge interval s
  | .silenceTimerExpiry lineHigh draw => Sys2Proof.Machine.execSilenceTimerExpiry lineHigh draw s
  | .edgeDuringBackoff fell => Sys2Proof.Machine.execEdgeDuringBackoff fell s
  | .openLine => Sys2Proof.Machine.execOpenLine s
  | .foreignPulse edge => Sys2Proof.Machine.execForeignPulse edge s
  | .driverFault => Sys2Proof.Machine.execDriverFault s
  | .lineRise => Sys2Proof.Machine.execLineRise s
  -- Within a round
  | .markSlot code => Sys2Proof.Machine.execMarkSlot code s
  | .burstPoint d => Sys2Proof.Machine.execBurstPoint d s
  | .surveyConversionDone x => Sys2Proof.Machine.execSurveyConversionDone x s
  | .burstConversionDone x => Sys2Proof.Machine.execBurstConversionDone x s
  -- Round ends by the kind read
  | .quietRound banner unassigned body => Sys2Proof.Machine.execQuietRound banner unassigned body s
  | .incidentRound banner body => Sys2Proof.Machine.execIncidentRound banner body s
  | .probeRound banner body => Sys2Proof.Machine.execProbeRound banner body s
  | .rollRound banner body => Sys2Proof.Machine.execRollRound banner body s
  | .epochRound banner body => Sys2Proof.Machine.execEpochRound banner body s
  | .replyRound banner body => Sys2Proof.Machine.execReplyRound banner body s
  | .orderRound banner body inputs => Sys2Proof.Machine.execOrderRound banner body inputs s
  -- Round ends at which something comes due
  | .rollTimerDue r inputs => Sys2Proof.Machine.execRollTimerDue r inputs s
  | .openTimerExpiry r inputs => Sys2Proof.Machine.execOpenTimerExpiry r inputs s
  | .captureEnd r inputs => Sys2Proof.Machine.execCaptureEnd r inputs s
  | .enterDormant r inputs => Sys2Proof.Machine.execEnterDormant r inputs s
  -- Orders to this station
  | .fetch banner n => Sys2Proof.Machine.execFetch banner n s
  | .fetchOldestUnread banner => Sys2Proof.Machine.execFetchOldestUnread banner s
  | .fetchStatus banner => Sys2Proof.Machine.execFetchStatus banner s
  | .mark banner n => Sys2Proof.Machine.execMark banner n s
  | .unlock banner part => Sys2Proof.Machine.execUnlock banner part s
  | .relock banner arg => Sys2Proof.Machine.execRelock banner arg s
  | .load banner value => Sys2Proof.Machine.execLoad banner value s
  | .program banner word => Sys2Proof.Machine.execProgram banner word s
  | .erase banner arg => Sys2Proof.Machine.execErase banner arg s
  | .eraseSetupPulse banner => Sys2Proof.Machine.execEraseSetupPulse banner s
  | .restart banner arg inputs => Sys2Proof.Machine.execRestart banner arg inputs s
  | .streamWordLoad => Sys2Proof.Machine.execStreamWordLoad s
  | .alertPulseEnd => Sys2Proof.Machine.execAlertPulseEnd s
  -- The non-volatile arrays
  | .wordProgramDone missed => Sys2Proof.Machine.execWordProgramDone missed s
  | .bankEraseDone unset missed => Sys2Proof.Machine.execBankEraseDone unset missed s
  | .setupProgramPulseDone missed => Sys2Proof.Machine.execSetupProgramPulseDone missed s
  | .setupErasePulseDone unset => Sys2Proof.Machine.execSetupErasePulseDone unset s
  -- Rest and wake
  | .senseTimerExpiry => Sys2Proof.Machine.execSenseTimerExpiry s
  | .senseConversionDone x => Sys2Proof.Machine.execSenseConversionDone x s
  | .forcedWakeExpiry => Sys2Proof.Machine.execForcedWakeExpiry s
  | .wakePatternEnd => Sys2Proof.Machine.execWakePatternEnd s
  | .longLow => Sys2Proof.Machine.execLongLow s
  | .longLowTimingStart => Sys2Proof.Machine.execLongLowTimingStart s
  | .patternWindowExpiry => Sys2Proof.Machine.execPatternWindowExpiry s

end Sys2Proof.Machine
end

