-- ==== Sys2Proof/Machine/Tick.lean ====
section
/-!
DEFINITION. One unit of 50 ns of the station's own timebase: every clock that runs moves on, up to the value at which its
event comes, and waits there for the command that is that event (log entry 2). The slot phase and round position move on
by themselves (R2, R5), up to the end of slot 37.
-/

namespace Sys2Proof.Machine

/-- The quarter after a quarter. -/
def Quarter.next : Quarter → Quarter
  | .q1 => .q2 | .q2 => .q3 | .q3 => .q4 | .q4 => .q1

/-- The slot timing stands at an instant that is a command's: the mark slot of a round about to begin (R6), or the burst
point that comes next (R51). -/
def Line.awaitsCommand (density : Nat) (l : Line) : Bool :=
  match l.round with
  | none => l.position == 0
  | some o =>
    o.captureRound && match l.nextBurstPoint density with
      | some d => burstSlot density d == l.position.val
      | none => false

/-- One unit of an ALIGNED station's slot timing (R2, R4, R5). -/
def Line.tickPhase (quarter density : Nat) (l : Line) : Line :=
  if l.awaitsCommand density then l
  else if l.phaseTime + 1 < quarter then { l with phaseTime := l.phaseTime + 1 }
  else if l.phase ≠ .q4 then { l with phase := Quarter.next l.phase, phaseTime := 0 }
  else if l.position = 37 then l
  else { l with phase := .q1, phaseTime := 0, position := l.position + 1 }

/-- One unit of the Line Interface's timers (R18, R19, R22, R23). -/
def Line.tickTimers (slot : Nat) (l : Line) : Line :=
  { l with
    silence := l.silence.map (Timer.up slot Config.silenceSlots)
    backoff := l.backoff.map (Timer.down slot)
    lowTime := if l.detector = .timing then clockUp longLowUnits l.lowTime else l.lowTime
    pattern := l.pattern.map (clockUp patternUnits) }

/-- One unit of the Line Interface. -/
def Line.tick (st : Settings) (l : Line) : Line :=
  let l := l.tickTimers (slotUnits st)
  if l.align = .aligned then l.tickPhase (quarterUnits st) st.density else l

/-- One unit of the conversion in flight (R44). -/
def Sequencer.tick (st : Settings) (q : Sequencer) : Sequencer :=
  match convertedInput st q with
  | some i => { q with elapsed := clockUp (conversionUnits st i) q.elapsed }
  | none => q

/-- One unit of the operation in progress (R131). -/
def Programmer.tick (p : Programmer) : Programmer := { p with elapsed := clockUp (operationUnits p.op) p.elapsed }

/-- One unit of the Rest Controller's timers (R180 to R182). -/
def Rest.tick (st : Settings) (r : Rest) : Rest :=
  { r with
    sense := r.sense.map (Timer.up msUnits st.sensePeriod)
    forced := r.forced.map (Timer.up msUnits (forcedMs (st.forcedWake.getD 0)))
    window := r.window.map (Timer.up msUnits windowMs) }

/-- One unit of the ALERT pulse (R93). -/
def Pins.tick (p : Pins) : Pins := { p with alertPulse := p.alertPulse.map (clockUp alertPulseUnits) }

/-- One unit of every clock. -/
def State.tickClocks (s : State) : State :=
  ((((s.setLine (s.line.tick s.settings)).setSequencer (s.sequencer.tick s.settings)).setProgrammer
    s.programmer.tick).setRest (s.rest.tick s.settings)).setPins s.pins.tick

/-- One word read by the start-up scan (R113, R135). Its last stage read, the scan waits for the command that is its end. -/
def State.tickScan (s : State) : State :=
  if s.store.scanned || s.store.scan.stage == .decide then s
  else if s.store.scan.read + 1 < scanWords s.arrays s.store.scan.stage then
    s.setStore { s.store with scan := { s.store.scan with read := s.store.scan.read + 1 } }
  else s.scanStage.refreshFault

/-- One unit of 50 ns. -/
def State.tick (s : State) : State := if s.powered then s.tickClocks.tickScan else s

end Sys2Proof.Machine
end

