-- ==== Sys2Proof/Machine/Step.lean ====
section
/-!
DEFINITION. One step of the station: the command at the front of the queue, or, when none waits, one unit of 50 ns of its
own time (log entry 2).
-/

namespace Sys2Proof.Machine

/-- The state with a queue of commands. -/
def State.setPending (s : State) (v : List Instr) : State := { s with pending := v }

/-- One step. -/
def step (s : State) : Host.Outcome State Fault Refusal :=
  match s.pending with
  | [] => .next s.tick
  | c :: rest => exec c (s.setPending rest)

/-- The state with the command a word spells at the front of its queue; the table gives no row bits (log entry 1). -/
def State.withFetchWord (s : State) (nbits w : Nat) : State :=
  match decodeTableWord nbits w with
  | some c => s.setPending (c :: s.pending)
  | none => s

end Sys2Proof.Machine
end

