-- ==== Sys2Proof/WellFormed.lean ====
section
/-!
DEFINITION. Which commands the rows of the table can be: the conditions a row's own words put on its operands. A command
that fails them is still carried out by `exec` (by the rule that then applies); these checks say which terms are proper
uses of a row.
-/

namespace Sys2Proof

/-- Masks listed by rising address, all below `size`, none empty. -/
def WordMasks.wellFormed (size : Nat) (m : WordMasks) : Bool :=
  (m.map Prod.fst).Pairwise (· < ·) && m.all (fun c => decide (c.1 < size) && c.2 != 0)

/-- A cut's masks lie in a bank (the setup block's 31 words lie below that bound too). -/
def Cut.wellFormed (c : Cut) : Bool := WordMasks.wellFormed Config.bankWords c.unset

/-- A foreign pulse: a fall in Q1 to Q3 of the mark slot, or a low through the whole of Q1 of any slot (R20). -/
def LineEdge.isForeign : LineEdge → Bool
  | .fall slot q => slot == 0 && q != .q4
  | .lowThroughQ1 _ => true

/-- The row's conditions on its operands. -/
def Instr.wellFormed : Instr → Bool
  | .start i => i.cut.wellFormed
  | .foreignPulse e => e.isForeign
  | .rollTimerDue r i => r.kind != .roll && i.cut.wellFormed
  | .openTimerExpiry _ i => i.cut.wellFormed
  | .captureEnd _ i => i.cut.wellFormed
  | .enterDormant r i => !r.banner.stay && i.cut.wellFormed
  | .fetch _ n => n != 0 && n != 0xFFFF
  | .erase _ a => a != 2
  | .restart _ _ i => i.cut.wellFormed
  | .bankEraseDone u _ => WordMasks.wellFormed Config.bankWords u
  | .setupErasePulseDone u => WordMasks.wellFormed Config.setupWords u
  | .orderRound _ _ i => i.cut.wellFormed
  | .powerLoss c => c.wellFormed
  | .setupValidation | .startupScan | .alignByMarks | .silenceTimerExpiry _ _ | .edgeDuringBackoff _ | .openLine
  | .driverFault | .markSlot _ | .burstPoint _ | .surveyConversionDone _ | .burstConversionDone _ | .quietRound _ _ _
  | .incidentRound _ _ | .alertPulseEnd | .probeRound _ _ | .rollRound _ _ | .epochRound _ _ | .replyRound _ _
  | .streamWordLoad | .fetchOldestUnread _ | .fetchStatus _ | .mark _ _ | .unlock _ _ | .relock _ _ | .load _ _
  | .program _ _ | .eraseSetupPulse _ | .wordProgramDone _ | .setupProgramPulseDone _ | .senseTimerExpiry
  | .senseConversionDone _ | .forcedWakeExpiry | .wakePatternEnd | .longLow | .patternWindowExpiry | .markSearchEdge _
  | .longLowTimingStart | .lineRise => true

end Sys2Proof
end

