-- ==== Sys2Proof/Safety.lean ====
section
/-!
DEFINITION. What every state of a run is meant to satisfy, and the conditions the statements are made under.
-/

namespace Sys2Proof.Machine

/-! ### Conditions every step keeps -/

/-- The three arrays are in their canonical form: no word outside them, addresses rising, no word listed that reads
erased. -/
def Arrays.wf (m : Arrays) : Bool :=
  nvWf Config.bankWords m.bank0 && nvWf Config.bankWords m.bank1 && nvWf Config.setupWords m.setup

/-- The FAULT pin of a powered station is low exactly when one of its conditions holds (R43, log entry 30). -/
def State.faultPinFollows (s : State) : Bool := !s.powered || s.pins.faultLow == s.faultCondition

/-- The station has left STARTING for the line only with its setup validated and its store scanned (R24). -/
def State.startedInOrder (s : State) : Bool :=
  s.membership.state == .starting || s.membership.state == .withdrawn || (s.setup.validated && s.store.scanned)

/-- The lock stands other than LOCKED only while the station is MEMBER (R163), and never under a key of all zeros
(R159). -/
def State.lockGuarded (s : State) : Bool :=
  s.lock == .locked || (s.membership.state == .member && s.settings.key.classOf != .allZeros)

/-- The Line Interface is ALIGNED exactly while the station is JOINING or MEMBER, SILENT only while it is SEEKING, and
holds offers only while ALIGNED (R13, R16, R21). -/
def State.lineFollows (s : State) : Bool :=
  (s.line.align == .aligned) == s.onLine && (s.line.align != .silent || s.membership.state == .seeking)
    && (s.line.round.isNone || s.line.align == .aligned)

/-- A capture is in progress only as MEMBER, and a capture round only during a capture (R51, R91). -/
def State.captureFollows (s : State) : Bool :=
  (s.engine.state == .idle || s.membership.state == .member)
    && (match s.line.round with
      | some o => !o.captureRound || s.engine.state == .capturing
      | none => true)

/-- The counts of a capture in progress: at least one round remains, and at most 32 in all (R86, R89). -/
def Engine.countsFit (e : Engine) : Bool :=
  e.state == .idle || (decide (1 ≤ e.remaining) && decide (e.captured + e.remaining ≤ Config.maxCaptureRounds))

/-- The setup pulse count stands where its sequence can have brought it: 1 to 3 for a word, 1 to 7 for the erase, else 0
(R140, R170, R172). -/
def Orders.pulseCountFits (o : Orders) : Bool :=
  match o.pulseIndex with
  | none => o.pulseCount == 0
  | some (.program _) => decide (o.pulseCount ≤ 3)
  | some .erase => decide (o.pulseCount ≤ 7)

/-- The counters whose limit no setting gives (R17, R18, R31, R40, R84, R88, R170, R172, R178, R182). -/
def State.fixedCountersFit (s : State) : Bool :=
  decide (s.engine.missed ≤ Config.maxMissed) && decide (s.engine.merges.length ≤ Config.maxMerges)
    && decide (s.membership.syncLosses ≤ Config.maxSyncLosses)
    && (s.membership.state == .withdrawn || decide (s.membership.syncLosses < Config.maxSyncLosses))
    && decide (s.rest.count ≤ Config.restRounds)
    && decide (s.rest.longLows ≤ 2) && s.membership.roster.toList.all (fun e => decide (e.misses ≤ 2))
    && decide (s.line.search.singles.getD 0 ≤ Config.markSingles) && s.orders.pulseCountFits

/-- The counters whose limit is a setting (R37, R51, R58, R156). -/
def State.setCountersFit (s : State) : Bool :=
  decide (s.membership.rollTimer ≤ s.settings.rollPeriod)
    && s.monitors.inputs.toList.all (fun m => decide (m.count ≤ s.settings.trip))
    && decide (s.line.burstPoints ≤ s.settings.density)
    && (match s.settings.openTimeout with
      | some t => decide (s.orders.openTimer ≤ t)
      | none => true)

/-- Nothing that a setting limits has counted yet. -/
def State.countsNothing (s : State) : Bool :=
  s.membership.rollTimer == 0 && s.monitors.inputs.toList.all (fun m => m.count == 0) && s.line.burstPoints == 0
    && s.orders.openTimer == 0 && s.sequencer.converter == .idle

/-- The counters that stop at a limit stand at or below it; three sync losses mean WITHDRAWN. Until validation has ended,
which is when the settings come into force (R165), the counters they limit stand at 0. -/
def State.countersFit (s : State) : Bool :=
  s.fixedCountersFit && s.setCountersFit && (s.setup.validated || s.countsNothing)

/-- The station as every step keeps it. -/
def State.wf (s : State) : Bool :=
  s.arrays.wf && s.faultPinFollows && s.startedInOrder && s.lockGuarded && s.lineFollows && s.captureFollows
    && s.engine.countsFit && s.countersFit

/-! ### Conditions of the statements -/

/-- A round of the station ends as `r`, and the line has carried every 0 the station sent in it (R12, R13). -/
def State.EndsRound (s : State) (o : Offers) (r : Round) (out : OfferOutcome) : Prop :=
  s.powered = true ∧ s.line.align = .aligned ∧ s.onLine = true ∧ s.line.round = some o
    ∧ settleOffer s.membership.number o r = some out

/-- The station does not come to rest at a round end with this STAY flag (R178). -/
def State.StaysAwake (s : State) (stay : Bool) : Prop := stay = true ∨ s.rest.count + 1 < Config.restRounds

/-- The slots 1 to 37 of a round as sampled: kind, ALERT and STAY, body; a pulled flag reads 0 (R5). -/
def sampledSlots (r : Round) : List Bool :=
  lineBits (kindCode r.kind) ++ [!r.banner.alert, !r.banner.stay] ++ lineBits r.body

/-- A bit sent in a field whose bits are `own`, given what the field's slots have sampled: the bit while every one before
it has read back, and 1 after a withdrawal (R7, R9, R10). -/
def SendsWithin (own sampled : List Bool) (k : Nat) (sent : Bool) : Prop :=
  (sampled.take k = own.take k → sent = own.getD k true) ∧ (sampled.take k ≠ own.take k → sent = true)

/-- The row that is the end of a round of the kind read (section 13.1). -/
def roundCommand (r : Round) : Instr :=
  match r.kind with
  | .incident => .incidentRound r.banner r.body
  | .probe => .probeRound r.banner r.body
  | .roll => .rollRound r.banner r.body
  | .order => .orderRound r.banner r.body noStart
  | .reply => .replyRound r.banner r.body
  | .epoch => .epochRound r.banner r.body
  | .unassigned => .quietRound r.banner true r.body
  | .quiet => .quietRound r.banner false r.body

/-- The row that is an order to this station. -/
def orderCommand (banner : Banner) (code : OrderCode) (arg : Word) (i : StartInputs) : Instr :=
  match code with
  | .fetch =>
    if arg = 0 then .fetchOldestUnread banner else if arg = 0xFFFF then .fetchStatus banner else .fetch banner arg
  | .mark => .mark banner arg
  | .unlock => .unlock banner arg
  | .relock => .relock banner arg
  | .load => .load banner arg
  | .program => .program banner arg
  | .erase => if arg = 2 then .eraseSetupPulse banner else .erase banner arg
  | .restart => .restart banner arg i

/-- The round that carries an order to this station. -/
def State.orderRound (s : State) (banner : Banner) (code : OrderCode) (arg : Word) : Round :=
  ⟨.order, banner, orderBody s.membership.number code arg⟩

/-- The round that ends is an ORDER round to this station, a MEMBER, that brings no rest (R139). -/
def State.TakesOrder (s : State) (o : Offers) (out : OfferOutcome) (banner : Banner) (code : OrderCode) (arg : Word) :
    Prop :=
  s.EndsRound o (s.orderRound banner code arg) out ∧ s.membership.state = .member ∧ s.StaysAwake banner.stay

/-- What every order taken leaves as it was, in the state `u` in which the programmer takes its next operation: the
settings, the arrays, the commit and the operation in progress (only its answer is no longer awaited), NEXT, and the
station's standing. The open timer is at 0 and the round count has moved on (R14, R140, R156). -/
def State.OrderLeaves (s u : State) : Prop :=
  u.powered = true ∧ u.pending = s.pending ∧ u.settings = s.settings ∧ u.arrays = s.arrays
    ∧ u.programmer.commit = s.programmer.commit ∧ u.programmer.op = s.programmer.forgetAnswers.op
    ∧ u.membership.state = .member ∧ u.membership.number = s.membership.number
    ∧ u.line.count = s.line.count + 1 ∧ u.engine.next = s.engine.next ∧ u.orders.openTimer = 0

end Sys2Proof.Machine
end

