-- ==== Sys2Proof/Certificates/Slice0/Obligations.lean ====
section
/-!
DEFINITION. The statements for the provers. Each says of one or several commands that `exec` answers a next state, and what
that state holds; the invariants at the end say what every step keeps. Where a statement names a state `u`, the station has
reacted to the command in every block but the NV Programmer; `u.take` is the programmer taking its next operation (R132).
-/

open Sys2Proof Sys2Proof.Machine

/-! ### Steps, starts -/

/-- A step with a command at the front of the queue is that command on the rest of the queue. -/
def Obligations.StepRunsTheFrontCommand : Prop :=
  ∀ (c : Instr) (rest : List Instr) (s : State), step (s.setPending (c :: rest)) = exec c (s.setPending rest)

/-- A step with no command waiting moves clocks only, and lets the start-up scan read one word: every other part of the
state is unchanged. Without power nothing moves (log entry 15). Once the scan has read everything, the store, the arrays,
the staging queue and the Order Unit are unchanged too; while it reads, only its own count of words moves, until a stage
has read its last word (R113, R133, R135). That an idle step is a tick is the model's choice (log entry 2); so is how many
words a stage reads (log entry 33).

What an idle step of 50 ns moves (log entry 2). The slot timing of an ALIGNED station: the time in the quarter, the next
quarter, the next slot, up to the end of slot 37; it stands while a mark slot or a burst point is its next event (R2, R4,
R5, R51). The silence timer up to 76 slot times and the backoff down to 0 (R18, R19), a low being timed up to 400 µs (R23),
the wake pattern up to 5 ms (R22), the conversion by its sample time plus 12 µs (R44), the operation of the NV Programmer
(R131), the sense, forced-wake and window timers in ms (R180, R181, R182), and the ALERT pulse up to 100 µs (R93). Each
waits at its limit for the command that is its event.

The durations in units of 50 ns: a slot of 200, 100, 50 or 25 µs and its quarter by the slot rate (R3); an attempt of a word
program 30 µs, a setup program pulse 200 µs, a setup erase pulse 5 ms, a bank erase 45 ms plus its condemn write and the
verify of 16,384 words, one unit each (R113, R115, R131), the condemn write taken as one attempt (log entry 13). The sample
time is its setting for inputs 0 to 7 and 32 µs for 8 and 9; the input converted is the survey's next, the repetition's, or
the sense input (R44, R47, R52, R180). -/
def Obligations.IdleStepMovesOnlyClocks : Prop :=
  (∀ s : State, s.pending = [] → s.powered = false → step s = .next s)
  ∧ (∀ s : State, s.pending = [] → s.powered = true → ∃ t, step s = .next t
    ∧ t.powered = true ∧ t.pending = [] ∧ t.membership = s.membership ∧ t.monitors = s.monitors
    ∧ t.ring = s.ring ∧ t.engine = s.engine ∧ t.lock = s.lock ∧ t.settings = s.settings
    ∧ t.setup.fault = s.setup.fault ∧ t.setup.validated = s.setup.validated ∧ t.store.scanned = s.store.scanned
    ∧ t.pins.straps = s.pins.straps ∧ t.pins.alertLow = s.pins.alertLow
    ∧ t.line.align = s.line.align ∧ t.line.round = s.line.round ∧ t.line.count = s.line.count
    ∧ t.line.search = s.line.search ∧ t.line.detector = s.line.detector ∧ t.line.burstPoints = s.line.burstPoints
    ∧ t.line.heldLow = s.line.heldLow
    ∧ t.sequencer = { s.sequencer with elapsed := t.sequencer.elapsed }
    ∧ t.rest.count = s.rest.count ∧ t.rest.longLows = s.rest.longLows ∧ t.rest.waking = s.rest.waking
    ∧ (s.store.scanned = true ∨ s.store.scan.stage = .decide →
        t.store = s.store ∧ t.arrays = s.arrays ∧ t.staging = s.staging ∧ t.orders = s.orders ∧ t.setup = s.setup
          ∧ t.programmer = { s.programmer with elapsed := t.programmer.elapsed } ∧ t.pins.faultLow = s.pins.faultLow)
    ∧ (s.store.scanned = false → s.store.scan.stage ≠ .decide →
        s.store.scan.read + 1 < scanWords s.arrays s.store.scan.stage →
        t.store = { s.store with scan := { s.store.scan with read := s.store.scan.read + 1 } } ∧ t.arrays = s.arrays
          ∧ t.staging = s.staging ∧ t.orders = s.orders ∧ t.setup = s.setup
          ∧ t.programmer = { s.programmer with elapsed := t.programmer.elapsed } ∧ t.pins.faultLow = s.pins.faultLow)
    ∧ (s.store.scanned = false → s.store.scan.stage ≠ .decide →
        scanWords s.arrays s.store.scan.stage ≤ s.store.scan.read + 1 →
        ∃ u : State, t = u.scanStage.refreshFault ∧ u.store = s.store ∧ u.arrays = s.arrays ∧ u.staging = s.staging
          ∧ u.orders = s.orders ∧ u.setup = s.setup
          ∧ u.programmer = { s.programmer with
              elapsed := clockUp (operationUnits s.programmer.op) s.programmer.elapsed }))
  ∧ (∀ s : State, s.pending = [] → s.powered = true → ∃ t, step s = .next t
    ∧ (s.line.align ≠ .aligned ∨ s.line.awaitsCommand s.settings.density = true →
        t.line.position = s.line.position ∧ t.line.phase = s.line.phase ∧ t.line.phaseTime = s.line.phaseTime)
    ∧ (s.line.align = .aligned → s.line.awaitsCommand s.settings.density = false →
        (s.line.phaseTime + 1 < quarterUnits s.settings → t.line.phaseTime = s.line.phaseTime + 1
          ∧ t.line.phase = s.line.phase ∧ t.line.position = s.line.position)
        ∧ (quarterUnits s.settings ≤ s.line.phaseTime + 1 →
          (s.line.phase ≠ .q4 → t.line.phase = Quarter.next s.line.phase ∧ t.line.phaseTime = 0
            ∧ t.line.position = s.line.position)
          ∧ (s.line.phase = .q4 → s.line.position ≠ 37 → t.line.phase = .q1 ∧ t.line.phaseTime = 0
            ∧ t.line.position.val = s.line.position.val + 1)
          ∧ (s.line.phase = .q4 → s.line.position = 37 → t.line.phase = .q4
            ∧ t.line.phaseTime = s.line.phaseTime ∧ t.line.position = 37)))
    ∧ t.line.silence = s.line.silence.map (Timer.up (slotUnits s.settings) 76)
    ∧ t.line.backoff = s.line.backoff.map (Timer.down (slotUnits s.settings))
    ∧ t.line.lowTime = (if s.line.detector = .timing then clockUp 8000 s.line.lowTime else s.line.lowTime)
    ∧ t.line.pattern = s.line.pattern.map (clockUp 100000)
    ∧ (∀ i, convertedInput s.settings s.sequencer = some i →
        t.sequencer.elapsed = clockUp ((sampleTime s.settings i + 12) * 20) s.sequencer.elapsed)
    ∧ (convertedInput s.settings s.sequencer = none → t.sequencer.elapsed = s.sequencer.elapsed)
    ∧ (s.store.scanned = true ∨ s.store.scan.stage = .decide
          ∨ s.store.scan.read + 1 < scanWords s.arrays s.store.scan.stage →
        t.programmer.elapsed = clockUp (operationUnits s.programmer.op) s.programmer.elapsed)
    ∧ t.rest.sense = s.rest.sense.map (Timer.up 20000 s.settings.sensePeriod)
    ∧ t.rest.forced = s.rest.forced.map (Timer.up 20000 (s.settings.forcedWake.getD 0 * 60000))
    ∧ t.rest.window = s.rest.window.map (Timer.up 20000 10)
    ∧ t.pins.alertPulse = s.pins.alertPulse.map (clockUp 2000))
  ∧ (∀ (density : Nat) (l : Line), l.awaitsCommand density = true ↔ (l.round = none ∧ l.position = 0)
      ∨ ∃ o d, l.round = some o ∧ o.captureRound = true ∧ l.nextBurstPoint density = some d
          ∧ 38 * d / density = l.position.val)
  ∧ (∀ (unit limit : Nat) (t : Timer), (limit ≤ t.count → t.up unit limit = t)
      ∧ (t.count < limit → t.sub + 1 < unit → t.up unit limit = ⟨t.count, t.sub + 1⟩)
      ∧ (t.count < limit → unit ≤ t.sub + 1 → t.up unit limit = ⟨t.count + 1, 0⟩)
      ∧ (t.count = 0 → t.down unit = t)
      ∧ (t.count ≠ 0 → t.sub + 1 < unit → t.down unit = ⟨t.count, t.sub + 1⟩)
      ∧ (t.count ≠ 0 → unit ≤ t.sub + 1 → t.down unit = ⟨t.count - 1, 0⟩))
  ∧ (∀ limit n : Nat, (n < limit → clockUp limit n = n + 1) ∧ (limit ≤ n → clockUp limit n = n))
  ∧ (∀ st : Settings, (st.slotRate = 5000 → slotUnits st = 4000 ∧ quarterUnits st = 1000)
      ∧ (st.slotRate = 10000 → slotUnits st = 2000 ∧ quarterUnits st = 500)
      ∧ (st.slotRate = 20000 → slotUnits st = 1000 ∧ quarterUnits st = 250)
      ∧ (st.slotRate = 40000 → slotUnits st = 500 ∧ quarterUnits st = 125))
  ∧ (∀ w, operationUnits (.word w) = 600)
  ∧ (∀ i v k owed, operationUnits (.pulse (.program i v k owed)) = 4000)
  ∧ (∀ k owed, operationUnits (.pulse (.erase k owed)) = 100000)
  ∧ (∀ b h, operationUnits (.bankErase b h) = 600 + 900000 + 16384)
  ∧ (∀ (st : Settings) (i : Input),
      (∀ h : i.val < 8, sampleTime st i = st.sampleTimes[i.val]) ∧ (8 ≤ i.val → sampleTime st i = 32))
  ∧ (∀ (st : Settings) (q : Sequencer), (q.converter = .idle → convertedInput st q = none)
      ∧ (q.converter = .survey → (q.pass = none → convertedInput st q = none)
          ∧ ∀ p, q.pass = some p → convertedInput st q = nextEntry st p)
      ∧ (q.converter = .burst → (q.repetition = none → convertedInput st q = none)
          ∧ ∀ r, q.repetition = some r → r.e < st.burst.length → convertedInput st q = st.burst[r.e]?)
      ∧ (q.converter = .sense → ∃ i, convertedInput st q = some i ∧ i.val = st.senseInput.val))
  ∧ (∀ (density : Nat) (l : Line) (d : Nat), l.nextBurstPoint density = some d
      ↔ d < density ∧ l.burstPoints ≤ d ∧ l.ahead (38 * d / density) = true
        ∧ ∀ k, l.burstPoints ≤ k → k < d → l.ahead (38 * k / density) = false)

/-- A start, from any state: the start values of every block, the number and the membership state the straps give, the
arrays as the cut left them (R1, R24, R43, R134). Where the spec gives no start value, the value is the model's choice
(log entry 7); so is that the station is told of RESET only at its release (log entry 29). -/
def Obligations.StartPutsEveryBlockAtItsStartValues : Prop :=
  ∀ (i : StartInputs) (s : State), ∃ t, exec (.start i) s = .next t
    ∧ t.powered = true ∧ t.pins.straps = i.straps ∧ t.membership.number = i.straps
    ∧ (i.straps ≠ 31 → t.membership.state = .starting ∧ t.membership.cause = .none ∧ t.pins.faultLow = false)
    ∧ (i.straps = 31 → t.membership.state = .withdrawn ∧ t.membership.cause = .number ∧ t.pins.faultLow = true)
    ∧ t.membership.syncLosses = 0 ∧ t.membership.rollTimer = 0 ∧ t.membership.roster = emptyRoster
    ∧ t.pins.alertLow = false ∧ t.line = State.reset.line ∧ t.sequencer = State.reset.sequencer
    ∧ t.monitors = State.reset.monitors ∧ t.ring = [] ∧ t.engine = State.reset.engine
    ∧ t.staging = State.reset.staging ∧ t.store = State.reset.store ∧ t.programmer = State.reset.programmer
    ∧ t.orders = State.reset.orders ∧ t.lock = .locked ∧ t.setup = State.reset.setup ∧ t.rest = State.reset.rest
    ∧ t.arrays = s.arrays.cutOff s.programmer.op i.cut ∧ t.pending = s.pending

/-- The loss of the supply: only the arrays, as the cut left them, and the queue last. An idle programmer leaves the arrays
as they are, and so does a pulse before the fourth or the eighth (R171, R173, R175). A word program cut off, or a fourth
program pulse, leaves its word at the old value with some of the bits to clear cleared, and every other word of every array
unchanged (R113, R134, R175). A header write cut off as a bank opens leaves it FRESH, with a sequence value, or DIRTY (R116,
R134); that DIRTY comes about by a header that reads 0000h is the model's choice (log entry 36). An eighth erase pulse leaves
each setup word with some of its zeros set (R175). A bank erase cut off in its condemn write leaves the header with some of
its bits cleared, and the rest of the bank as it was; cut off later, it leaves each other word with some of its zeros set
(R115, R134), and that the header then reads 0000h or FFFFh is the model's reading (log entry 26). What the cut left is an
operand (log entry 3). That everything else stands at its start values meanwhile, STARTING and an empty staging queue and an
idle programmer among them, is the model's choice (log entry 15). -/
def Obligations.PowerLossAndItsCut : Prop :=
  (∀ (c : Cut) (s : State), ∃ t, exec (.powerLoss c) s = .next t ∧ t.powered = false
      ∧ t.arrays = s.arrays.cutOff s.programmer.op c ∧ t.pending = s.pending
      ∧ t.programmer.op = .idle ∧ t.membership.state = .starting ∧ t.staging = State.reset.staging)
  ∧ (∀ (m : Arrays) (w : WordOp) (c : Cut), m.wf = true → w.address < Config.bankWords →
      (∀ b a, (b ≠ w.bank ∨ a ≠ w.address) → nvRead ((m.cutOff (.word w) c).bank b) a = nvRead (m.bank b) a)
        ∧ (m.cutOff (.word w) c).setup = m.setup
        ∧ (w.purpose ≠ .header ∨ c.headerDirty = false →
            nvRead ((m.cutOff (.word w) c).bank w.bank) w.address
              = nvRead (m.bank w.bank) w.address &&& (w.value ||| c.bits))
        ∧ (w.purpose = .header → c.headerDirty = true →
            nvRead ((m.cutOff (.word w) c).bank w.bank) w.address = 0))
  ∧ (∀ (m : Arrays) (w : WordOp), w.purpose = .header → w.address = 0 → m.bank w.bank = [] →
      w.value ≠ 0 → w.value ≠ 0xFFFF →
      let found := fun c : Cut => classifyBank ((m.cutOff (.word w) c).bank w.bank)
      (∀ c, c.headerDirty = true → found c = .dirty)
        ∧ (∀ c, c.headerDirty = false → found c = .fresh ∨ ∃ v, found c = .sequence v)
        ∧ (∃ c, found c = .fresh) ∧ (∃ c, found c = .sequence w.value))
  ∧ (∀ (m : Arrays) (c : Cut), m.cutOff .idle c = m
      ∧ (∀ i v k owed, k ≠ 4 → m.cutOff (.pulse (.program i v k owed)) c = m)
      ∧ (∀ k owed, k ≠ 8 → m.cutOff (.pulse (.erase k owed)) c = m))
  ∧ (∀ (m : Arrays) (c : Cut), m.wf = true →
      (∀ i v owed, i < Config.setupWords →
        let t := m.cutOff (.pulse (.program i v 4 owed)) c
        t.bank0 = m.bank0 ∧ t.bank1 = m.bank1 ∧ nvRead t.setup i = nvRead m.setup i &&& (v ||| c.bits)
          ∧ ∀ a, a ≠ i → nvRead t.setup a = nvRead m.setup a)
      ∧ (∀ owed,
        let t := m.cutOff (.pulse (.erase 8 owed)) c
        t.bank0 = m.bank0 ∧ t.bank1 = m.bank1
          ∧ ∀ a, nvRead t.setup a = nvRead m.setup a ||| ~~~(maskAt c.unset a))
      ∧ (∀ b h,
        let t := m.cutOff (.bankErase b h) c
        t.bank b.other = m.bank b.other ∧ t.setup = m.setup
          ∧ (c.condemning = true → nvRead (t.bank b) 0 = h &&& c.bits
              ∧ ∀ a, a ≠ 0 → nvRead (t.bank b) a = nvRead (m.bank b) a)
          ∧ (c.condemning = false → nvRead (t.bank b) 0 = (if c.headerErased = true then 0xFFFF else 0)
              ∧ ∀ a, a ≠ 0 → nvRead (t.bank b) a = nvRead (m.bank b) a ||| ~~~(maskAt c.unset a))))

/-- The end of setup validation: the check, the range checks, the working copy, the key, the setup fault and its pin, and
the end of STARTING once the scan has ended too (R24, R43, R166, R167, R168).

The check is good when some word does not read FFFFh and the CRC-16 over words 0 to 29 is word 30 (R166). The range checks
(R167), the settings a block in range holds, each field coded as the layout gives it (R190), the key of words 27 to 29 and
the default settings (R168) are spelled out after it. -/
def Obligations.ValidationFormsTheWorkingCopy : Prop :=
  (∀ s : State, s.powered = true → s.setup.validated = false → ∃ t, exec .setupValidation s = .next t
    ∧ t.setup.validated = true ∧ t.arrays = s.arrays ∧ t.store = s.store ∧ t.orders = s.orders
    ∧ (setupCheckGood s.arrays.setup = false → t.settings = defaultSettings openKey ∧ t.setup.fault = .check)
    ∧ (setupCheckGood s.arrays.setup = true → inRange (nvRead s.arrays.setup) = false →
        t.settings = defaultSettings (storedKey (nvRead s.arrays.setup)) ∧ t.setup.fault = .range)
    ∧ (setupCheckGood s.arrays.setup = true → inRange (nvRead s.arrays.setup) = true →
        t.settings = storedSettings (nvRead s.arrays.setup) ∧ t.setup.fault = .none)
    ∧ (t.setup.fault ≠ .none → t.pins.faultLow = true)
    ∧ (s.membership.state = .starting → s.store.scanned = true →
        t.membership.state = .seeking ∧ t.line.silence = some Timer.zero)
    ∧ (s.membership.state = .starting → s.store.scanned = false → t.membership.state = .starting))
  ∧ (∀ m : Nv, nvWf Config.setupWords m = true → (setupCheckGood m = true
      ↔ (∃ k, k < 31 ∧ nvRead m k ≠ 0xFFFF) ∧ crc16 ((List.range 30).map (nvRead m)) = nvRead m 30))
  ∧ (∀ r : Nat → Word,
      let bits := fun word low n : Nat => ((r word).extractLsb' low n).toNat
      let n := bits 1 12 4
      let seg := bits 1 8 4
      (inRange r = true ↔ 1 ≤ n ∧ n ≤ 12 ∧ 1 ≤ seg ∧ seg ≤ n ∧ bits 2 8 2 ≠ 3
        ∧ (∀ k, 2 * k < n → bits (3 + k) 12 4 < 10) ∧ (∀ k, 2 * k + 1 < n → bits (3 + k) 8 4 < 10)
        ∧ (∀ k, k ≤ bits 2 10 2 → bits 9 (12 - 4 * k) 4 < 10)
        ∧ (∀ i, i < 8 → bits (10 + 2 * i) 0 12 ≤ bits (11 + 2 * i) 0 12)
        ∧ bits 2 4 4 < 8)
      ∧ (inRange r = true →
        let st := storedSettings r
        [5000, 10000, 20000, 40000][bits 0 14 2]? = some st.slotRate
        ∧ [64, 256, 1024, 4096][bits 0 12 2]? = some st.rollPeriod
        ∧ (st.policy = .overwrite ↔ bits 0 11 1 = 0) ∧ (st.dormancyAllowed = true ↔ bits 0 10 1 = 0)
        ∧ (st.wakeThree = true ↔ bits 0 9 1 = 1) ∧ (st.pinMode = .pulse ↔ bits 0 8 1 = 0)
        ∧ [some 1024, some 4096, some 16384, none][bits 0 6 2]? = some st.openTimeout
        ∧ st.survey.length = n
        ∧ (∀ k, 2 * k < n → st.survey[2 * k]?.map Fin.val = some (bits (3 + k) 12 4))
        ∧ (∀ k, 2 * k + 1 < n → st.survey[2 * k + 1]?.map Fin.val = some (bits (3 + k) 8 4))
        ∧ st.segment = seg ∧ st.trip = bits 1 6 2 + 1 ∧ st.ringCapacity = bits 1 2 4
        ∧ st.postLength = bits 2 12 4 + 1 ∧ st.burst.length = bits 2 10 2 + 1
        ∧ (∀ k, k ≤ bits 2 10 2 → st.burst[k]?.map Fin.val = some (bits 9 (12 - 4 * k) 4))
        ∧ [1, 2, 4][bits 2 8 2]? = some st.density ∧ st.senseInput.val = bits 2 4 4
        ∧ [16, 64, 256, 1024][bits 2 2 2]? = some st.sensePeriod
        ∧ [none, some 1, some 10, some 60][bits 2 0 2]? = some st.forcedWake
        ∧ (∀ i : Fin 8, st.windows[i] = ⟨(r (10 + 2 * i.val)).extractLsb' 0 12, (r (11 + 2 * i.val)).extractLsb' 0 12⟩)
        ∧ (∀ i : Fin 8, [4, 8, 16, 32][bits 26 (14 - 2 * i.val) 2]? = some st.sampleTimes[i])
        ∧ st.key = ⟨r 27, r 28, r 29⟩)
      ∧ storedKey r = ⟨r 27, r 28, r 29⟩)
  ∧ openKey = ⟨0xFFFF, 0xFFFF, 0xFFFF⟩
  ∧ (∀ key : Key, defaultSettings key = {
      slotRate := 20000, rollPeriod := 256, policy := .keep, dormancyAllowed := false, wakeThree := true
      pinMode := .pulse, openTimeout := some 4096, survey := [0, 1, 2, 3, 4, 5, 6, 7], segment := 8, trip := 2
      ringCapacity := 8, postLength := 8, burst := [0], density := 1, senseInput := 0, sensePeriod := 256
      forcedWake := none, windows := Vector.replicate 8 ⟨0, 4095⟩, sampleTimes := Vector.replicate 8 8, key := key })

/-- The start-up scan, stage by stage, and its end. A bank's header and content are classified, bank 0 first (R116, R135).
Each position of the walk of a bank with a sequence value ends the walk at an append point or closed, or passes a record:
kept, queued for its VOID mark when STARTED, counted when COMPLETE, its incident numbers noted (R136, R138). After each
stage the programmer takes what it queued (R133). The end decides the bank states and NEXT, and STARTING ends once validation
has ended too (R24, R137, R138). STARTUP_SCAN runs the stages that are left and then the end (log entry 14); that bank 0
goes before bank 1 (log entry 32) and that a bank with a sequence value stands CLOSED until the end (log entry 33) are the
model's choices.

The tables of the scan. A record's state by bits 0 to 3 of its state word, STARTED, COMPLETE, READ and VOID, each cleared
when set (R119, R187). A bank's classification by its header and its other words, and the successor of a sequence value
(R116). The incident numbers of a record: its primary number, and the words of its merge list when the merge count is 0 to 4
and the list lies within the length, FFFFh left out (R138, R187). -/
def Obligations.ScanRebuildsTheStoreAndNext : Prop :=
  (∀ (b : BankId) (s : State), s.store.scan.stage = .classify b → ∃ u : State, s.scanStage = u.take
      ∧ u.arrays = s.arrays ∧ u.programmer = s.programmer ∧ u.orders = s.orders ∧ u.staging = s.staging
      ∧ u.store.bank b.other = s.store.bank b.other ∧ u.store.voidQueue = s.store.voidQueue
      ∧ u.store.unread = s.store.unread ∧ u.store.full = s.store.full ∧ u.store.openBank = s.store.openBank
      ∧ (classifyBank (s.arrays.bank b) = .fresh →
          u.store.bank b = ⟨.fresh, false, []⟩ ∧ u.store.scan.value b = s.store.scan.value b)
      ∧ (classifyBank (s.arrays.bank b) = .dirty →
          u.store.bank b = ⟨.dirty, true, []⟩ ∧ u.store.scan.value b = s.store.scan.value b)
      ∧ (∀ v, classifyBank (s.arrays.bank b) = .sequence v →
          u.store.bank b = ⟨.closed, false, []⟩ ∧ u.store.scan.value b = some v)
      ∧ (b = .bank0 → u.store.scan.stage = .classify .bank1)
      ∧ (b = .bank1 → s.store.scan.value0 ≠ none → u.store.scan.stage = .walk .bank0 1)
      ∧ (b = .bank1 → s.store.scan.value0 = none → u.store.scan.value1 ≠ none → u.store.scan.stage = .walk .bank1 1)
      ∧ (b = .bank1 → s.store.scan.value0 = none → u.store.scan.value1 = none → u.store.scan.stage = .decide))
  ∧ (∀ (b : BankId) (p : Nat) (s : State), s.store.scan.stage = .walk b p → ∃ u : State, s.scanStage = u.take
      ∧ u.arrays = s.arrays ∧ u.programmer = s.programmer ∧ u.orders = s.orders ∧ u.staging = s.staging
      ∧ u.store.bank b.other = s.store.bank b.other ∧ u.store.openBank = s.store.openBank
      ∧ let m := s.arrays.bank b
        let st := recordState (nvRead m p)
        let n := nvRead m (p + 1)
        let valid := 13 ≤ n.toNat ∧ n.toNat ≤ 726 ∧ p + n.toNat ≤ 16384
        let walked := (b = .bank0 → s.store.scan.value1 ≠ none → u.store.scan.stage = .walk .bank1 1)
          ∧ (b = .bank1 ∨ s.store.scan.value1 = none → u.store.scan.stage = .decide)
        (st = .free → u.store = { s.store with scan := u.store.scan } ∧ u.store.scan.append b = some p ∧ walked)
        ∧ (st = .stray ∨ (st ≠ .free ∧ ¬valid) →
            u.store = { s.store with scan := u.store.scan } ∧ u.store.scan.append b = none ∧ walked)
        ∧ (st ≠ .free → st ≠ .stray → valid →
            u.store.bank b = { s.store.bank b with records := (s.store.bank b).records ++ [⟨p, n.toNat⟩] }
            ∧ u.store.voidQueue
                = (if st = .started then s.store.voidQueue ++ [(b, ⟨p, n.toNat⟩)] else s.store.voidQueue)
            ∧ u.store.unread = (if st = .complete then s.store.unread + 1 else s.store.unread)
            ∧ (∀ k ∈ recordNumbers m ⟨p, n.toNat⟩, k ≤ u.store.scan.greatest)
            ∧ s.store.scan.greatest ≤ u.store.scan.greatest
            ∧ (u.store.scan.greatest = s.store.scan.greatest
                ∨ u.store.scan.greatest ∈ recordNumbers m ⟨p, n.toNat⟩)
            ∧ (p + n.toNat < 16384 → u.store.scan.stage = .walk b (p + n.toNat))
            ∧ (p + n.toNat = 16384 → u.store.scan.append b = some 16384 ∧ walked)))
  ∧ (∀ s : State, s.powered = true → s.store.scanned = false → s.store.scan.stage ≠ .decide →
      exec .startupScan s = exec .startupScan s.scanStage)
  ∧ (∀ s : State, s.powered = true → s.store.scanned = false → s.store.scan.stage = .decide →
      ∃ t, exec .startupScan s = .next t ∧ t.store.scanned = true ∧ t.store.voidQueue = s.store.voidQueue
        ∧ t.store.unread = s.store.unread ∧ t.arrays = s.arrays ∧ t.programmer = s.programmer ∧ t.orders = s.orders
        ∧ t.engine = { s.engine with next := t.engine.next }
        ∧ t.engine.next.toNat = min (s.store.scan.greatest + 1) 65535
        ∧ (s.store.scan.value0 = none → s.store.scan.value1 = none →
            t.store.bank0 = s.store.bank0 ∧ t.store.bank1 = s.store.bank1 ∧ t.store.openBank = s.store.openBank)
        ∧ (∀ b v, s.store.scan.value b = some v →
            (s.store.scan.value b.other = none
              ∨ ∃ w, s.store.scan.value b.other = some w ∧ w ≠ sequenceSuccessor v
                  ∧ (v = sequenceSuccessor w ∨ w.toNat < v.toNat ∨ (w = v ∧ b = .bank0))) →
            t.store.bank b.other = s.store.bank b.other
              ∧ (∀ p, s.store.scan.append b = some p → (t.store.bank b).state = .opened
                  ∧ (t.store.bank b).records = (s.store.bank b).records ∧ t.store.openBank = some b
                  ∧ t.store.appendPoint = p)
              ∧ (s.store.scan.append b = none →
                  t.store.bank b = s.store.bank b ∧ t.store.openBank = s.store.openBank))
        ∧ (s.membership.state = .starting → s.setup.validated = true →
            t.membership.state = .seeking ∧ t.line.silence = some Timer.zero)
        ∧ (s.membership.state = .starting → s.setup.validated = false → t.membership.state = .starting))
  ∧ (∀ w : Word, (recordState w = .free ↔ w = 0xFFFF)
      ∧ (recordState w = .stray ↔ w ≠ 0xFFFF ∧ w.getLsbD 0 = true)
      ∧ (recordState w = .void ↔ w.getLsbD 0 = false ∧ w.getLsbD 3 = false)
      ∧ (recordState w = .started ↔ w.getLsbD 0 = false ∧ w.getLsbD 3 = true ∧ w.getLsbD 1 = true)
      ∧ (recordState w = .complete
          ↔ w.getLsbD 0 = false ∧ w.getLsbD 3 = true ∧ w.getLsbD 1 = false ∧ w.getLsbD 2 = true)
      ∧ (recordState w = .read
          ↔ w.getLsbD 0 = false ∧ w.getLsbD 3 = true ∧ w.getLsbD 1 = false ∧ w.getLsbD 2 = false))
  ∧ (∀ m : Nv, nvWf 16384 m = true →
      (classifyBank m = .fresh ↔ ∀ a, a < 16384 → nvRead m a = 0xFFFF)
      ∧ (classifyBank m = .dirty
          ↔ nvRead m 0 = 0 ∨ (nvRead m 0 = 0xFFFF ∧ ∃ a, 1 ≤ a ∧ a < 16384 ∧ nvRead m a ≠ 0xFFFF))
      ∧ ∀ v, classifyBank m = .sequence v ↔ nvRead m 0 = v ∧ v ≠ 0 ∧ v ≠ 0xFFFF)
  ∧ sequenceSuccessor 65534 = 1
  ∧ (∀ v : Word, v.toNat < 65534 → (sequenceSuccessor v).toNat = v.toNat + 1)
  ∧ (∀ (m : Nv) (x : Extent),
      let count := ((nvRead m (x.position + 6)).extractLsb' 5 3).toNat
      ∀ k, k ∈ recordNumbers m x ↔ ∃ w : Word, w.toNat = k ∧ w ≠ 0xFFFF ∧ (w = nvRead m (x.position + 2)
        ∨ count ≤ 4 ∧ 10 + count ≤ x.length ∧ ∃ i, i < count ∧ w = nvRead m (x.position + 10 + i)))

/-! ### The line -/

/-- The mark search. The second mark: ALIGNED at Q2 of slot 1, JOINING, no offers (R17, R25). A falling edge while SEEKING:
first edge, first mark, count, early double, too many singles, broken interval, second mark; every edge but the last
restarts the silence timer and leaves the station SEEKING (R17, R18). The classes of an interval are those of R17, each
limit in its class; that an interval comes in whole hundredths is the model's choice (log entry 23). -/
def Obligations.SearchFindsTheMarks : Prop :=
  (∀ s : State, s.powered = true → s.searching = true → s.line.search.singles = some 36 →
      ∃ t, exec .alignByMarks s = .next t ∧ t.line.align = .aligned ∧ t.line.position = 1 ∧ t.line.phase = .q2
        ∧ t.line.phaseTime = 0 ∧ t.line.round = none ∧ t.line.count = s.line.count ∧ t.line.silence = none
        ∧ t.membership = { s.membership with state := .joining, rollTimer := 0 }
        ∧ t.arrays = s.arrays ∧ t.orders = s.orders ∧ t.engine = s.engine)
  ∧ (∀ (d : Nat) (s : State), s.powered = true → s.searching = true → ∃ t, exec (.markSearchEdge d) s = .next t
      ∧ t.line.count = s.line.count ∧ t.arrays = s.arrays ∧ t.orders = s.orders ∧ t.engine = s.engine
      ∧ (s.line.search.edgeSeen = false → t.line.search = ⟨true, none⟩)
      ∧ (s.line.search.edgeSeen = true →
          (classify d = .broken → t.line.search = ⟨true, none⟩)
          ∧ (classify d = .single → s.line.search.singles = none → t.line.search = ⟨true, none⟩)
          ∧ (∀ n, classify d = .single → s.line.search.singles = some n → n < 36 →
              t.line.search = ⟨true, some (n + 1)⟩)
          ∧ (∀ n, classify d = .single → s.line.search.singles = some n → 36 ≤ n → t.line.search = ⟨true, none⟩)
          ∧ (classify d = .double → s.line.search.singles ≠ some 36 → t.line.search = ⟨true, some 0⟩)
          ∧ (classify d = .double → s.line.search.singles = some 36 →
              t.line.align = .aligned ∧ t.line.position = 1 ∧ t.line.phase = .q2 ∧ t.line.silence = none
                ∧ t.membership = { s.membership with state := .joining, rollTimer := 0 }))
      ∧ (¬(s.line.search.edgeSeen = true ∧ classify d = .double ∧ s.line.search.singles = some 36) →
          t.line.silence = some Timer.zero ∧ t.line.align = .seeking ∧ t.membership = s.membership))
  ∧ (∀ d : Nat, (classify d = .single ↔ 75 ≤ d ∧ d ≤ 125) ∧ (classify d = .double ↔ 175 ≤ d ∧ d ≤ 225)
      ∧ (classify d = .broken ↔ d < 75 ∨ (125 < d ∧ d < 175) ∨ 225 < d))

/-- The silence timer at 76: SILENT with a backoff of 8 plus the draw when the line is high, else the timer restarts (R18).
During backoff an edge returns to a fresh search from that edge, a low found waits for its rise, and the timer at 0 opens
the line as the station's own mark slot (R19, R25). -/
def Obligations.SilenceThenBackoffThenOpening : Prop :=
  (∀ (draw : BitVec 6) (s : State), s.powered = true → s.searching = true →
      (∃ t, exec (.silenceTimerExpiry true draw) s = .next t ∧ t.line.align = .silent
        ∧ t.line.backoff = some ⟨8 + draw.toNat, 0⟩ ∧ t.line.silence = none ∧ t.membership = s.membership)
      ∧ (∃ t, exec (.silenceTimerExpiry false draw) s = .next t ∧ t.line.align = .seeking
        ∧ t.line.silence = some Timer.zero ∧ t.line.backoff = s.line.backoff ∧ t.membership = s.membership))
  ∧ (∀ s : State, s.powered = true → s.line.align = .silent → s.membership.state = .seeking →
      (∃ t, exec (.edgeDuringBackoff true) s = .next t ∧ t.line.align = .seeking ∧ t.line.search = ⟨true, none⟩
        ∧ t.line.silence = some Timer.zero ∧ t.line.backoff = none ∧ t.membership = s.membership)
      ∧ (∃ t, exec (.edgeDuringBackoff false) s = .next t ∧ t.line.align = .seeking ∧ t.line.search = ⟨false, none⟩
        ∧ t.line.silence = none ∧ t.line.heldLow = true ∧ t.line.backoff = none ∧ t.membership = s.membership)
      ∧ (∃ t, exec .openLine s = .next t ∧ t.line.align = .aligned ∧ t.line.position = 0 ∧ t.line.phase = .q1
        ∧ t.line.backoff = none ∧ t.line.round = none ∧ t.membership.state = .joining ∧ t.membership.rollTimer = 0))

/-- A foreign pulse: the round is abandoned and a fresh search begins, at its edge when it is one; a JOINING station goes to
SEEKING uncounted, a member counts a sync loss and at the third withdraws, its Line Interface inactive (R16, R20, R30, R31,
R45, R71, R149, R163). Every trip count goes to 0, and the armed flags, the trip set and alert pending stay (R61). A capture
in progress is abandoned: its slot EMPTY, its primary number one missed incident (R84, R91, R106). A fall in Q1 of another
slot starts Q2 there, and any other fall changes nothing (R4); that FOREIGN_PULSE carries such falls too, by slot and quarter,
is the model's choice (log entry 18). -/
def Obligations.EdgesCostTheAlignmentOrResynchronise : Prop :=
  (∀ (e : LineEdge) (s : State), e.isForeign = true → s.powered = true → s.line.align = .aligned → s.onLine = true →
      ∃ t, exec (.foreignPulse e) s = .next t
        ∧ t.line.align = .seeking ∧ t.line.round = none ∧ t.line.count = s.line.count ∧ t.line.backoff = none
        ∧ t.ring = [] ∧ t.sequencer.latest = Vector.replicate 10 none ∧ t.sequencer.pointer = 0
        ∧ t.sequencer.converter = .idle ∧ t.sequencer.repetition = none
        ∧ t.engine.state = .idle ∧ t.engine.due = false ∧ t.engine.next = s.engine.next
        ∧ t.arrays = s.arrays ∧ t.store = s.store ∧ t.orders.holding = s.orders.holding ∧ t.rest.count = 0
        ∧ t.monitors.alertPending = s.monitors.alertPending
        ∧ (∀ i : Fin 8, t.monitors.inputs[i] = { s.monitors.inputs[i] with count := 0 })
        ∧ (s.engine.state = .idle → t.staging = s.staging ∧ t.engine = { s.engine with due := false })
        ∧ (s.engine.state = .capturing →
            t.engine.missed = (if s.engine.missed < 15 then s.engine.missed + 1 else s.engine.missed)
            ∧ t.engine.firstMissed = (if s.engine.firstMissed = 0 then s.engine.primary else s.engine.firstMissed)
            ∧ t.engine.captured = 0 ∧ t.engine.remaining = 0 ∧ t.engine.merges = [] ∧ t.engine.overflow = false
            ∧ t.engine.cut = false ∧ t.engine.exhausted = s.engine.exhausted ∧ t.sequencer.baselines = []
            ∧ ∀ i c, s.staging.fillingSlot = some (i, c) → t.staging = s.staging.setSlot i .empty)
        ∧ (s.membership.state = .joining ∨ s.membership.syncLosses + 1 < 3 →
            t.line = { s.line with
              align := .seeking
              search := ⟨match e with
                | .fall _ _ => true
                | .lowThroughQ1 _ => false, none⟩
              silence := some Timer.zero, heldLow := false, backoff := none, round := none, burstPoints := 0 })
        ∧ (s.membership.state = .joining →
            t.membership.state = .seeking ∧ t.membership.syncLosses = s.membership.syncLosses
              ∧ t.membership.roster = emptyRoster)
        ∧ (s.membership.state = .member →
            t.membership.syncLosses = s.membership.syncLosses + 1 ∧ t.lock = .locked ∧ t.orders.outbox = none
              ∧ t.orders.stream = none ∧ t.orders.awaited = none)
        ∧ (s.membership.state = .member → s.membership.syncLosses + 1 < 3 →
            t.membership.state = .seeking ∧ t.membership.roster = emptyRoster ∧ t.membership.rollTimer = 0)
        ∧ (s.membership.state = .member → 3 ≤ s.membership.syncLosses + 1 →
            t.membership.state = .withdrawn ∧ t.membership.cause = .sync ∧ t.pins.faultLow = true
              ∧ t.membership.roster = s.membership.roster ∧ t.membership.rollTimer = s.membership.rollTimer
              ∧ t.line = { s.line with
                  align := .seeking, search := ⟨false, none⟩, silence := none, heldLow := false, backoff := none
                  round := none, burstPoints := 0 }))
  ∧ (∀ (slot : Fin 38) (s : State), s.powered = true → s.line.align = .aligned → s.onLine = true →
      (slot ≠ 0 → exec (.foreignPulse (.fall slot .q1)) s
          = .next (s.setLine { s.line with position := slot, phase := .q2, phaseTime := 0 }).refreshFault)
      ∧ (∀ q, slot ≠ 0 → q ≠ .q1 → exec (.foreignPulse (.fall slot q)) s = .next s.refreshFault)
      ∧ exec (.foreignPulse (.fall 0 .q4)) s = .next s.refreshFault)

/-- A driver fault, met in a round or found at its end: WITHDRAWN with cause DRIVER, the round abandoned, roster and
sync losses kept, FAULT low, every trip count 0 and the rest of the monitors kept (R61), a capture in progress abandoned and
counted as one missed incident (R12, R33, R43, R84, R91, R106). That a round end finds the fault in its samples is the model's
form (log entry 5).

What the end of slot 37 makes of the samples. A driver fault exactly when a slot in which the station sent 0 sampled 1
(R12). Without one, the outcome of its kind offer: none offered; lost exactly when another kind was read, a lower one; a
collective kind won; an arbitrated body won exactly when every bit read back, and else withdrawn at the first bit that did
not, a 1 that sampled 0 (R7, R9, R13). The check: good exactly when the code sampled is that of the covered bits, in PROBE
over b0 to b20 and in ORDER, REPLY and EPOCH over b0 to b23; a winner's check is good; the other kinds carry none (R11). The
code is the CRC-8 of R186: from 0, for each covered bit in line order, a shift, and the exclusive-or with 07h where the
register's top bit differs from the bit. Kind and status codes are those of R185. -/
def Obligations.DriverFaultWithdrawsTheStation : Prop :=
  (∀ (o : Offers) (s : State), s.powered = true → s.line.align = .aligned → s.onLine = true → s.line.round = some o →
    ∃ t, exec .driverFault s = .next t
      ∧ t.membership = { s.membership with state := .withdrawn, cause := .driver } ∧ t.pins.faultLow = true
      ∧ t.line.align = .seeking ∧ t.line.round = none ∧ t.line.silence = none ∧ t.line.count = s.line.count
      ∧ t.ring = [] ∧ t.engine.state = .idle ∧ t.arrays = s.arrays ∧ t.store = s.store
      ∧ t.monitors.alertPending = s.monitors.alertPending
      ∧ (∀ i : Fin 8, t.monitors.inputs[i] = { s.monitors.inputs[i] with count := 0 })
      ∧ (s.engine.state = .idle → t.staging = s.staging ∧ t.engine = { s.engine with due := false })
      ∧ (s.engine.state = .capturing →
          t.engine.missed = (if s.engine.missed < 15 then s.engine.missed + 1 else s.engine.missed)
          ∧ t.engine.firstMissed = (if s.engine.firstMissed = 0 then s.engine.primary else s.engine.firstMissed)
          ∧ ∀ i c, s.staging.fillingSlot = some (i, c) → t.staging = s.staging.setSlot i .empty)
      ∧ ∀ r : Round, settleOffer s.membership.number o r = none → exec (roundCommand r) s = .next t)
  ∧ (∀ (number : BitVec 5) (o : Offers) (r : Round),
      (settleOffer number o r = none ↔ ∃ slot, slot < 37 ∧ (sampledSlots r)[slot]? = some true
        ∧ sentBit number o ((sampledSlots r).take slot) (slot + 1) = false)
      ∧ (∀ out, settleOffer number o r = some out →
          (offeredKind o.kind = none → out = .none)
          ∧ (∀ k, offeredKind o.kind = some k → (out = .lostKind ↔ r.kind ≠ k)
              ∧ (r.kind ≠ k → kindCode r.kind < kindCode k)
              ∧ (r.kind = k → k = .incident ∨ k = .roll → out = .won))
          ∧ (∀ code, o.kind = .probe code → r.kind = .probe →
              (out = .won ↔ r.body.extractLsb' 3 29 = probeBits number code)
              ∧ (∀ j, out = .withdrew j → j < 29 ∧ r.body.getMsbD j = false ∧ (probeBits number code).getMsbD j = true
                  ∧ ∀ i, i < j → r.body.getMsbD i = (probeBits number code).getMsbD i))
          ∧ (∀ rep, o.kind = .reply rep → r.kind = .reply →
              (out = .won ↔ r.body = replyBody number rep)
              ∧ (∀ j, out = .withdrew j → j < 32 ∧ r.body.getMsbD j = false ∧ (replyBody number rep).getMsbD j = true
                  ∧ ∀ i, i < j → r.body.getMsbD i = (replyBody number rep).getMsbD i))
          ∧ (out = .won → checkGood r.kind r.body = true)))
  ∧ (∀ b : Body, (checkGood .order b = true ↔ b = framedBody (b.extractLsb' 8 24))
      ∧ (checkGood .reply b = true ↔ b = framedBody (b.extractLsb' 8 24))
      ∧ (checkGood .epoch b = true ↔ b = framedBody (b.extractLsb' 8 24))
      ∧ (checkGood .probe b = true
          ↔ b.extractLsb' 3 29 = probeBits (b.extractLsb' 27 5) (b.extractLsb' 11 16))
      ∧ checkGood .incident b = true ∧ checkGood .roll b = true ∧ checkGood .unassigned b = true
      ∧ checkGood .quiet b = true)
  ∧ crc8 [] = 0
  ∧ (∀ (covered : List Bool) (bit : Bool), crc8 (covered ++ [bit])
      = if (crc8 covered).msb = bit then crc8 covered <<< 1 else (crc8 covered <<< 1) ^^^ 0x07)
  ∧ (∀ covered : BitVec 24, framedBody covered = covered ++ crc8 ((List.range 24).map covered.getMsbD))
  ∧ (∀ (number : BitVec 5) (code : BitVec 16), probeBits number code
      = (number ++ code : BitVec 21) ++ crc8 ((List.range 21).map (number ++ code : BitVec 21).getMsbD))
  ∧ (∀ (number : BitVec 5) (rep : Reply),
      replyBody number rep = framedBody (number ++ statusCode rep.status ++ rep.value))
  ∧ [Kind.incident, .probe, .roll, .order, .reply, .epoch, .unassigned, .quiet].map kindCode = [0, 1, 2, 3, 4, 5, 6, 7]
  ∧ [Status.data, .last, .done, .pending, .locked, .absent, .busy, .refused].map statusCode = [0, 1, 2, 3, 4, 5, 6, 7]

/-! ### Within a round -/

/-- A mark slot: the offers of the round, the survey segment begun, and in a capture round a block of absent values (R6,
R26, R37, R47, R51, R74, R76, R77, R101, R142, R177). The segment's first conversion starts at once, but in a capture round,
or with a repetition still in flight, it waits for the burst (R47, R53, R54). The block joins the end of the burst part and
has D × B positions (R101). The conditions of readiness to rest (R176). The input part of the origin offered is the lowest
input of the trip set (R63).

The LINE pin, and what the station sends in each data slot. It is released while no wake pattern runs and the station is
not ALIGNED, in the mark slot and in Q1, and pulled in every other slot's Q2; in Q3 and Q4 it is pulled exactly when the
station sends 0 (R2, R16). The wake pattern's three lows of 1 ms (R22). In the kind slots the kind offered, until it is lost
(R7); in slots 4 and 5 the banner flags (R7); in the body what the kind read calls for: the four fields of INCIDENT, each
with its own withdrawal (R10, R77), number, code and check of PROBE by its offerer and DEFEND by the member of that number
(R8, R9, R27), presence and store-full of ROLL by members (R38), the offerer's REPLY body (R9), and nothing else (R8). -/
def Obligations.MarkSlotTakesTheOffers : Prop :=
  (∀ (code : BitVec 16) (s : State), s.powered = true → s.line.align = .aligned → s.onLine = true →
    s.line.round = none → ∃ t o, exec (.markSlot code) s = .next t ∧ t.line.round = some o ∧ t.line.position = 0
      ∧ t.line.count = s.line.count
      ∧ (s.membership.state = .joining →
          o.kind = .probe code ∧ o.banner = ⟨false, true⟩ ∧ o.member = false ∧ o.claims = false)
      ∧ (s.membership.state = .member → o.member = true ∧ o.storeFull = s.store.full
          ∧ o.banner.stay = !s.readyToRest
          ∧ (o.banner.alert = true ↔ s.engine.state = .idle ∧ s.monitors.alertPending = true ∧ s.engine.due = false)
          ∧ (s.engine.due = true → o.kind = .incident s.incidentOffer)
          ∧ (o.claims = true ↔ s.engine.due = true ∧ s.engine.state = .idle ∧ s.engine.exhausted = false
              ∧ (s.staging.slot0 = .empty ∨ s.staging.slot1 = .empty))
          ∧ (s.engine.due = true → s.incidentOffer.number = s.engine.next
              ∧ s.incidentOffer.preDepth = (if o.claims then BitVec.ofNat 4 s.ring.length else 15)
              ∧ s.incidentOffer.postCode = BitVec.ofNat 4 (s.settings.postLength - 1)
              ∧ (s.engine.state = .capturing ∨ lowestTripped s.monitors = none → s.incidentOffer.origin = 255)
              ∧ (∀ i, s.engine.state = .idle → lowestTripped s.monitors = some i →
                  s.incidentOffer.origin = BitVec.ofNat 8 (s.membership.number.toNat * 8 + i)))
          ∧ (s.engine.due = false → s.membership.rollTimer = s.settings.rollPeriod → o.kind = .roll)
          ∧ (s.engine.due = false → s.membership.rollTimer ≠ s.settings.rollPeriod →
              (∀ r, s.orders.outbox = some r → o.kind = .reply r) ∧ (s.orders.outbox = none → o.kind = .none)))
      ∧ (o.captureRound = true ↔ s.engine.state = .capturing)
      ∧ t.sequencer.pass = some ⟨s.sequencer.pointer, []⟩
      ∧ (s.engine.state = .idle → s.sequencer.repetition = none →
          (nextEntry s.settings ⟨s.sequencer.pointer, []⟩ ≠ none →
            t.sequencer.converter = .survey ∧ t.sequencer.elapsed = 0)
          ∧ (nextEntry s.settings ⟨s.sequencer.pointer, []⟩ = none → t.sequencer.converter = .idle))
      ∧ (s.engine.state = .capturing ∨ s.sequencer.repetition ≠ none →
          t.sequencer.converter = s.sequencer.converter ∧ t.sequencer.repetition = s.sequencer.repetition)
      ∧ (s.engine.state = .idle → t.staging = s.staging)
      ∧ (s.engine.state = .capturing → ∀ i c, s.staging.fillingSlot = some (i, c) →
          t.staging.slot i = .filling (addBlock c))
      ∧ t.arrays = s.arrays ∧ t.engine = s.engine ∧ t.membership = s.membership ∧ t.orders.outbox = s.orders.outbox)
  ∧ (∀ c : Construction, addBlock c
      = { c with blocks := c.blocks ++ [List.replicate (c.density * c.burstLength) 0x8000] })
  ∧ (∀ s : State, s.readyToRest = true ↔ s.settings.dormancyAllowed = true ∧ s.engine.state = .idle
      ∧ s.engine.due = false ∧ s.monitors.alertPending = false ∧ s.staging.slot0 = .empty ∧ s.staging.slot1 = .empty
      ∧ s.programmer.op = .idle ∧ s.programmer.commit = none ∧ s.programmer.pulses = [] ∧ s.programmer.marks = []
      ∧ s.store.voidQueue = [] ∧ s.store.bank0.erasePending = false ∧ s.store.bank1.erasePending = false
      ∧ s.orders.outbox = none ∧ s.orders.stream = none ∧ s.lock = .locked)
  ∧ (∀ (sampled : List Bool) (s : State),
      (s.line.pattern = none → s.line.align ≠ .aligned ∨ s.onLine = false → s.pullsLine sampled = false)
      ∧ (∀ n, s.line.pattern = some n → s.line.align ≠ .aligned →
          (s.pullsLine sampled = true ↔ n < 20000 ∨ (40000 ≤ n ∧ n < 60000) ∨ (80000 ≤ n ∧ n < 100000)))
      ∧ (s.line.pattern = none → s.line.align = .aligned → s.onLine = true →
          (s.line.position = 0 → s.pullsLine sampled = false)
          ∧ (s.line.phase = .q1 → s.pullsLine sampled = false)
          ∧ (s.line.position ≠ 0 → s.line.phase = .q2 → s.pullsLine sampled = true)
          ∧ (s.line.position ≠ 0 → s.line.phase = .q3 ∨ s.line.phase = .q4 →
              (s.line.round = none → s.pullsLine sampled = false)
              ∧ ∀ o, s.line.round = some o →
                  s.pullsLine sampled = !sentBit s.membership.number o sampled s.line.position.val)))
  ∧ (∀ (number : BitVec 5) (o : Offers) (sampled : List Bool),
      (∀ j, j < 3 → (offeredKind o.kind = none → sentBit number o sampled (j + 1) = true)
        ∧ ∀ k, offeredKind o.kind = some k →
            SendsWithin (lineBits (kindCode k)) sampled j (sentBit number o sampled (j + 1)))
      ∧ sentBit number o sampled 4 = !o.banner.alert ∧ sentBit number o sampled 5 = !o.banner.stay
      ∧ ∀ j, j < 32 →
          let body := sampled.drop 5
          let sent := sentBit number o sampled (j + 6)
          (sampledKind sampled = kindCode .incident →
            (∀ f, o.kind = .incident f →
              (j < 16 → SendsWithin (lineBits (~~~f.number)) body j sent)
              ∧ (16 ≤ j → j < 20 → SendsWithin (lineBits f.preDepth) (body.drop 16) (j - 16) sent)
              ∧ (20 ≤ j → j < 24 → SendsWithin (lineBits (~~~f.postCode)) (body.drop 20) (j - 20) sent)
              ∧ (24 ≤ j → SendsWithin (lineBits f.origin) (body.drop 24) (j - 24) sent))
            ∧ ((∀ f, o.kind ≠ .incident f) → sent = true))
          ∧ (sampledKind sampled = kindCode .probe →
            (j = 29 → (sent = false ↔ o.member = true ∧ body.take 5 = lineBits number))
            ∧ (∀ code, o.kind = .probe code → j < 29 → SendsWithin (lineBits (probeBits number code)) body j sent)
            ∧ ((∀ code, o.kind ≠ .probe code) ∨ 30 ≤ j → j ≠ 29 → sent = true))
          ∧ (sampledKind sampled = kindCode .roll →
            (sent = false ↔ o.member = true ∧ ((j = number.toNat ∧ j < 31) ∨ (j = 31 ∧ o.storeFull = true))))
          ∧ (sampledKind sampled = kindCode .reply →
            (∀ r, o.kind = .reply r → SendsWithin (lineBits (replyBody number r)) body j sent)
            ∧ ((∀ r, o.kind ≠ .reply r) → sent = true))
          ∧ (sampledKind sampled = kindCode .order ∨ sampledKind sampled = kindCode .epoch
              ∨ sampledKind sampled = kindCode .unassigned ∨ sampledKind sampled = kindCode .quiet → sent = true))
  ∧ (∀ ms : Monitors, (lowestTripped ms = none ↔ ∀ i : Fin 8, ms.inputs[i].tripped = false)
      ∧ (∀ i, lowestTripped ms = some i → i < 8)
      ∧ ∀ i : Fin 8, lowestTripped ms = some i.val
          ↔ ms.inputs[i].tripped = true ∧ ∀ j : Fin 8, j < i → ms.inputs[j].tripped = false)

/-- A survey conversion completes: the sample ends the pass under way, becomes the latest value, and goes to the input's
monitor; the next entry's conversion begins at once, or the survey is idle when the segment has none left (R47, R50, R58).
The entry that comes next is the survey list's, by segment and samples taken (R46). -/
def Obligations.SurveySampleJoinsThePass : Prop :=
  (∀ (x : Sample) (p : PassUnderWay) (i : Input) (s : State), s.powered = true → s.sequencer.converter = .survey →
    s.sequencer.pass = some p → nextEntry s.settings p = some i →
    ∃ t, exec (.surveyConversionDone x) s = .next t
      ∧ t.sequencer.pass = some { p with samples := p.samples ++ [x] } ∧ t.sequencer.latest[i] = some x
      ∧ (∀ j : Input, j ≠ i → t.sequencer.latest[j] = s.sequencer.latest[j])
      ∧ (∀ h : i.val < 8, t.monitors = (submitSample s.settings ⟨i.val, h⟩ x s.monitors).1)
      ∧ (8 ≤ i.val → t.monitors = s.monitors)
      ∧ (nextEntry s.settings { p with samples := p.samples ++ [x] } ≠ none →
          t.sequencer.converter = .survey ∧ t.sequencer.elapsed = 0)
      ∧ (nextEntry s.settings { p with samples := p.samples ++ [x] } = none → t.sequencer.converter = .idle)
      ∧ t.staging = s.staging ∧ t.ring = s.ring ∧ t.engine = s.engine ∧ t.line = s.line)
  ∧ ∀ (st : Settings) (p : PassUnderWay), nextEntry st p
      = if p.samples.length < st.segment then st.survey[p.segment * st.segment + p.samples.length]? else none

/-- A window monitor's judgement of a sample (R58, R59). A sample is inside the window when it is at least the low limit and
at most the high limit (R57). -/
def Obligations.MonitorTripsOnTheSettingsCount : Prop :=
  (∀ (w : Window) (x : Sample), w.inside x = true ↔ w.low.toNat ≤ x.toNat ∧ x.toNat ≤ w.high.toNat)
  ∧ ∀ (st : Settings) (i : Fin 8) (x : Sample) (ms : Monitors),
    let m := ms.inputs[i]
    let t := (submitSample st i x ms).1
    (st.windows[i].inside x = true →
        t.inputs[i] = { m with count := 0, armed := true } ∧ t.alertPending = ms.alertPending)
    ∧ (st.windows[i].inside x = false → m.count + 1 < st.trip →
        t.inputs[i] = { m with count := m.count + 1 } ∧ t.alertPending = ms.alertPending)
    ∧ (st.windows[i].inside x = false → m.count + 1 = st.trip → m.armed = true →
        t.inputs[i] = ⟨st.trip, false, true⟩ ∧ t.alertPending = true)
    ∧ (st.windows[i].inside x = false → m.count + 1 = st.trip → m.armed = false →
        t.inputs[i] = { m with count := st.trip } ∧ t.alertPending = ms.alertPending)
    ∧ (st.windows[i].inside x = false → st.trip ≤ m.count → t.inputs[i] = m ∧ t.alertPending = ms.alertPending)
    ∧ (∀ j : Fin 8, j ≠ i → t.inputs[j] = ms.inputs[j])

/-- The next burst point of a capture round: the line stands at the start of Q1 of its slot, 38·d/D rounded down (R51), the
survey is displaced and its repetition starts; met while one is in flight the repetition is skipped (R52, R54). A burst
point that is not the next one, because it was taken, its slot's start is past, or an earlier one is still to come,
changes nothing, as does one of a round that is no capture round. A burst conversion's delta, or the sample itself on a
raw baseline, goes to its position of the FILLING slot, and the repetition goes on, or the survey resumes with the next
entry of its segment if one is left (R52, R56, R101, R102). The delta is the sample minus the baseline in two's complement,
and no value handed on reads 8000h (R56, R188). The position is that of its repetition and entry in the block of its capture
round; every other position of every block stays (R101). That a repetition in flight names its capture by the primary number,
so that a value of an earlier capture is discarded, is the model's form (log entry 17). That point 0 may come just before its
mark slot's own command, that the points are taken in order and each before its slot's start is past, and that the point
taken stands the slot timing at its slot's start, are the model's choices (log entry 10); so is that a burst point that is
not the next one changes nothing (log entry 4). The FILLING slot is the slot that holds a record under construction; at most
one does (R97, R112). -/
def Obligations.BurstsFillTheirPositions : Prop :=
  (∀ (d : Fin 4) (s : State), s.powered = true → s.atBurstPoint d.val = true →
      ∃ t, exec (.burstPoint d) s = .next t ∧ t.sequencer.pass = s.sequencer.pass ∧ t.staging = s.staging
        ∧ t.line = { s.line with
            position := Fin.ofNat 38 (38 * d.val / s.settings.density), phase := .q1, phaseTime := 0
            burstPoints := d.val + 1 }
        ∧ t.engine = s.engine
        ∧ (s.sequencer.repetition = none → t.sequencer.converter = .burst
            ∧ t.sequencer.repetition = some ⟨s.engine.primary, s.engine.captured, d.val, 0⟩)
        ∧ (s.sequencer.repetition ≠ none → t.sequencer = s.sequencer))
  ∧ (∀ (d : Fin 4) (s : State), s.powered = true → s.atBurstPoint d.val = false →
      exec (.burstPoint d) s = .next s.refreshFault)
  ∧ (∀ (d : Nat) (o : Offers) (s : State), s.line.align = .aligned → s.line.round = some o →
      (s.atBurstPoint d = true ↔ o.captureRound = true ∧ d < s.settings.density ∧ s.line.burstPoints ≤ d
        ∧ s.line.ahead (38 * d / s.settings.density) = true
        ∧ ∀ k, s.line.burstPoints ≤ k → k < d → s.line.ahead (38 * k / s.settings.density) = false))
  ∧ (∀ (slot : Nat) (l : Line), l.ahead slot = true
      ↔ l.position.val < slot ∨ (l.position.val = slot ∧ l.phase = .q1 ∧ l.phaseTime = 0))
  ∧ (∀ (x : Sample) (r : Repetition) (s : State), s.powered = true → s.sequencer.converter = .burst →
      s.sequencer.repetition = some r → ∃ t, exec (.burstConversionDone x) s = .next t
        ∧ (∀ i c, s.staging.fillingSlot = some (i, c) →
            t.staging.slot i = .filling (placeBurst r (burstValue (s.sequencer.baselines.getD r.e none) x) c))
        ∧ (s.staging.fillingSlot = none → t.staging = s.staging)
        ∧ (r.e + 1 < s.settings.burst.length → t.sequencer.converter = .burst
            ∧ t.sequencer.repetition = some { r with e := r.e + 1 })
        ∧ (s.settings.burst.length ≤ r.e + 1 → t.sequencer.repetition = none ∧ t.sequencer.converter ≠ .burst
          ∧ (∀ p, s.sequencer.pass = some p → nextEntry s.settings p ≠ none →
              t.sequencer.converter = .survey ∧ t.sequencer.elapsed = 0)
          ∧ (∀ p, s.sequencer.pass = some p → nextEntry s.settings p = none → t.sequencer.converter = .idle)
          ∧ (s.sequencer.pass = none → t.sequencer.converter = .idle))
        ∧ t.sequencer.latest = s.sequencer.latest ∧ t.sequencer.pass = s.sequencer.pass ∧ t.monitors = s.monitors)
  ∧ (∀ x : Sample, (∀ b : Sample, burstValue (some b) x = BitVec.ofInt 16 ((x.toNat : Int) - b.toNat))
      ∧ burstValue none x = BitVec.ofNat 16 x.toNat ∧ ∀ baseline, burstValue baseline x ≠ 0x8000)
  ∧ (∀ (r : Repetition) (v : Word) (c : Construction),
      let placed := placeBurst r v c
      (c.primary ≠ r.primary → placed = c)
      ∧ (c.primary = r.primary → placed = { c with blocks := placed.blocks }
          ∧ placed.blocks.length = c.blocks.length
          ∧ ∀ k block, c.blocks[k]? = some block → ∃ written, placed.blocks[k]? = some written
              ∧ written.length = block.length
              ∧ ∀ j, j < block.length →
                  written[j]? = if k = r.round ∧ j = r.d * c.burstLength + r.e then some v else block[j]?))
  ∧ (∀ q : Staging, (q.fillingSlot = none ↔ ∀ i c, q.slot i ≠ .filling c)
      ∧ ∀ i c, q.fillingSlot = some (i, c)
          ↔ q.slot i = .filling c ∧ (i = .slot1 → ∀ d, q.slot0 ≠ .filling d))

/-! ### Round ends -/

/-- Every round end, whatever its kind, moves the round count on by one, or sets it from a good EPOCH body. Incident due is
set when ALERT reads low and the station is MEMBER once the round end has been taken, and clear otherwise (R76). The rest
count rises by one when STAY reads released, is 0 when it reads pulled, and 0 once the station has left the line (R178). The
setup block and the settings are untouched (R13, R14, R15).

The end of the round within which a station aligned by marks raises no round end: nothing changes but the slot timing, and
the next mark slot begins (R13, R25). That the count stays then in an EPOCH round too (R15), the roll timer and the roster in
a ROLL round (R39, R40) and NEXT in an INCIDENT round (R80), is the model's choice (log entry 35), and so is
that a row for what comes due at a round end is no event there (log entries 4 and 6).

A round end restarts the station when it takes a RESTART with the lock OPEN (R154, R164); it takes an order when the round is
an ORDER round with a good check to the station's own number, and the station is MEMBER (R139). An EPOCH body carries the
count in b0 to b23 (R15). -/
def Obligations.RoundEndMovesTheRoundCount : Prop :=
  (∀ (o : Offers) (r : Round) (out : OfferOutcome) (s : State), s.EndsRound o r out → s.restarts r = false →
    ∃ t, exec (roundCommand r) s = .next t
      ∧ (r.kind = .epoch → checkGood .epoch r.body = true → t.line.count = epochValue r.body)
      ∧ (r.kind ≠ .epoch ∨ checkGood .epoch r.body = false → t.line.count = s.line.count + 1)
      ∧ t.engine.due = (r.banner.alert && t.membership.state == .member)
      ∧ (s.StaysAwake r.banner.stay → t.onLine = true →
          t.rest.count = if r.banner.stay then 0 else s.rest.count + 1)
      ∧ (t.onLine = false → t.rest.count = 0)
      ∧ t.line.round = none ∧ t.arrays.setup = s.arrays.setup ∧ t.settings = s.settings ∧ t.pending = s.pending
      ∧ t.pins.straps = s.pins.straps ∧ t.membership.number = s.membership.number)
  ∧ (∀ (r : Round) (s : State), (s.restarts r = true ↔ s.lock = .opened ∧ ∃ arg, s.takenOrder r = some (.restart, arg))
      ∧ (s.takenOrder r = none ↔ ¬(r.kind = .order ∧ checkGood .order r.body = true
          ∧ orderTarget r.body = s.membership.number ∧ s.membership.state = .member)))
  ∧ (∀ body : Body, epochValue body = body.extractLsb' 8 24 ∧ orderTarget body = body.extractLsb' 27 5)
  ∧ ∀ (r : Round) (s : State), s.powered = true → s.line.align = .aligned → s.onLine = true → s.line.round = none →
    ∃ t, exec (roundCommand r) s = .next t
      ∧ t.line = { s.line with burstPoints := 0, position := 0, phase := .q1, phaseTime := 0 }
      ∧ t.line.count = s.line.count ∧ t.ring = s.ring ∧ t.membership = s.membership ∧ t.engine = s.engine
      ∧ t.rest = s.rest ∧ t.orders = s.orders ∧ t = (s.setLine t.line).refreshFault
      ∧ (∀ code arg i, exec (orderCommand r.banner code arg i) s = .next t)
      ∧ (∀ i, ∀ c ∈ [Instr.rollTimerDue r i, .openTimerExpiry r i, .captureEnd r i, .enterDormant r i],
          exec c s = .next s.refreshFault)
      ∧ (∀ code, ∃ v, exec (.markSlot code) t = .next v ∧ v.line.round = some (t.takeOffers code)
          ∧ v.line.position = 0 ∧ v.line.count = s.line.count)

/-- A pass goes to the ring at the round end of its segment: appended, the oldest evicted at capacity, SHORT judged, the
pointer moved on, a survey conversion in flight abandoned; an EPOCH round with a good check restates the counts, one with a
bad check does not (R11, R48, R49, R65, R66). SHORT is fewer samples than the segment has entries (R46, R49); the pointer
goes on by one, and to 0 after the last segment (R46, R48); a full ring of capacity at least 1 loses its oldest entry, and
capacity 0 takes none (R65); restated, the tail stands at the body value less 1 and each entry before it one lower (R66). A
joiner withdraws for DUPLICATE when it lost a code bit, or won and read DEFEND pulled, unless the check was bad (R28). -/
def Obligations.PassJoinsTheRing : Prop :=
  (∀ (o : Offers) (r : Round) (out : OfferOutcome) (p : PassUnderWay) (s : State), s.EndsRound o r out →
    s.sequencer.pass = some p → s.restarts r = false → s.StaysAwake r.banner.stay →
    (s.membership.state = .joining → probeResult r out ≠ .duplicate) →
    ∃ t, exec (roundCommand r) s = .next t
      ∧ (r.kind ≠ .epoch ∨ checkGood .epoch r.body = false →
          t.ring = ringAppend s.settings.ringCapacity s.ring (finishedPass s.settings s.line.count p))
      ∧ (r.kind = .epoch → checkGood .epoch r.body = true →
          t.ring = ringRestate (epochValue r.body)
            (ringAppend s.settings.ringCapacity s.ring (finishedPass s.settings s.line.count p)))
      ∧ t.sequencer.pass = none ∧ t.sequencer.pointer = advancePointer s.settings s.sequencer.pointer
      ∧ t.sequencer.converter = if s.sequencer.converter = .survey then .idle else s.sequencer.converter)
  ∧ (∀ (st : Settings) (n : RoundCount) (p : PassUnderWay), (finishedPass st n p).count = n
      ∧ (finishedPass st n p).segment = p.segment ∧ (finishedPass st n p).samples = p.samples
      ∧ ((finishedPass st n p).short = true
          ↔ p.samples.length < min st.segment (st.survey.length - p.segment * st.segment)))
  ∧ (∀ (st : Settings) (j : Nat), 1 ≤ st.segment → j * st.segment < st.survey.length →
      advancePointer st j = if (j + 1) * st.segment < st.survey.length then j + 1 else 0)
  ∧ (∀ (ring : List Pass) (p : Pass), ringAppend 0 ring p = ring
      ∧ (∀ capacity, ring.length < capacity → ringAppend capacity ring p = ring ++ [p])
      ∧ (∀ oldest rest, ring = oldest :: rest → ringAppend ring.length ring p = rest ++ [p]))
  ∧ (∀ (v : RoundCount) (ring : List Pass), (ringRestate v ring).length = ring.length
      ∧ ∀ k, k < ring.length → (ringRestate v ring)[ring.length - 1 - k]?
          = ring[ring.length - 1 - k]?.map fun p => { p with count := v - 1 - BitVec.ofNat 24 k })
  ∧ (∀ (r : Round) (out : OfferOutcome), probeResult r out = .duplicate
      ↔ ¬(r.kind = .probe ∧ checkGood .probe r.body = false)
        ∧ ((∃ k, out = .withdrew k ∧ 5 ≤ k ∧ k ≤ 20) ∨ (out = .won ∧ defendPulled r.body = true)))

/-- A ROLL round: roll timer 0, a member's sync losses 0, and every roster entry by its slot (R39, R40). Slot b_k of the body
is pulled when it reads 0 (R38). -/
def Obligations.RollRoundTakesTheRoll : Prop :=
  (∀ (body : Body) (k : Nat), rollPulled body k = !body.getMsbD k)
  ∧ ∀ (o : Offers) (banner : Banner) (body : Body) (out : OfferOutcome) (s : State),
    s.EndsRound o ⟨.roll, banner, body⟩ out → s.StaysAwake banner.stay →
    ∃ t, exec (.rollRound banner body) s = .next t ∧ t.membership.rollTimer = 0
      ∧ t.membership.state = s.membership.state
      ∧ (s.membership.state = .member → t.membership.syncLosses = 0)
      ∧ (s.membership.state = .joining → t.membership.syncLosses = s.membership.syncLosses)
      ∧ ∀ k : Fin 31,
          (rollPulled body k.val = true → t.membership.roster[k] = ⟨true, 0⟩)
          ∧ (rollPulled body k.val = false → s.membership.roster[k].present = true →
              s.membership.roster[k].misses < 2 →
                t.membership.roster[k] = ⟨true, s.membership.roster[k].misses + 1⟩)
          ∧ (rollPulled body k.val = false → s.membership.roster[k].present = true →
              2 ≤ s.membership.roster[k].misses → t.membership.roster[k] = ⟨false, 0⟩)
          ∧ (rollPulled body k.val = false → s.membership.roster[k].present = false →
              t.membership.roster[k] = ⟨false, 0⟩)

/-- The roll timer at a member's round ends: it rises to the roll period and stays; the round end at which it comes
there is ROLL_TIMER_DUE, and the station then wants ROLL (R37). That the row is that round's end is the model's choice
(log entry 6). -/
def Obligations.RollTimerRisesToThePeriod : Prop :=
  ∀ (o : Offers) (r : Round) (out : OfferOutcome) (i : StartInputs) (s : State), s.EndsRound o r out →
    s.membership.state = .member → r.kind ≠ .roll → s.restarts r = false → s.StaysAwake r.banner.stay →
    (∃ t, exec (roundCommand r) s = .next t
      ∧ t.membership = { s.membership with rollTimer := min (s.membership.rollTimer + 1) s.settings.rollPeriod })
    ∧ (s.rollComesDue r = true ↔ s.membership.rollTimer + 1 = s.settings.rollPeriod)
    ∧ (s.rollComesDue r = true → ∃ t, exec (.rollTimerDue r i) s = .next t
      ∧ t.membership = { s.membership with rollTimer := s.settings.rollPeriod } ∧ t.wantsRoll = true)

/-- What becomes of a joiner at the end of a round in which it offered PROBE: a PROBE round (R28, R29), or an INCIDENT round,
in which it lost the kind and stays JOINING. A withdrawal sets its trip counts to 0, and its monitors stay otherwise (R61). That
a withdrawal for DUPLICATE keeps the roster and the roll timer is the model's reading (log entry 28). DEFEND is b29, pulled
when it reads 0 (R27). -/
def Obligations.ProbeRoundSettlesTheJoiner : Prop :=
  (∀ (o : Offers) (code : BitVec 16) (banner : Banner) (body : Body) (out : OfferOutcome) (s : State),
    s.EndsRound o ⟨.probe, banner, body⟩ out → s.membership.state = .joining → o.kind = .probe code →
    s.StaysAwake banner.stay → ∃ t, exec (.probeRound banner body) s = .next t
      ∧ t.monitors.alertPending = s.monitors.alertPending
      ∧ (t.membership.state ≠ .withdrawn → t.monitors = s.monitors)
      ∧ (t.membership.state = .withdrawn →
          ∀ i : Fin 8, t.monitors.inputs[i] = { s.monitors.inputs[i] with count := 0 })
      ∧ (checkGood .probe body = false → t.membership = s.membership)
      ∧ (checkGood .probe body = true → out = .won → defendPulled body = false →
          t.membership = { s.membership with
            state := .member, roster := s.membership.roster.setIfInBounds s.membership.number.toNat ⟨true, 0⟩ })
      ∧ (checkGood .probe body = true → out = .won → defendPulled body = true →
          t.membership = { s.membership with state := .withdrawn, cause := .duplicate } ∧ t.pins.faultLow = true
            ∧ t.line.align = .seeking)
      ∧ (∀ k, checkGood .probe body = true → out = .withdrew k → (k ≤ 4 ∨ 21 ≤ k) → t.membership = s.membership)
      ∧ (∀ k, checkGood .probe body = true → out = .withdrew k → 5 ≤ k → k ≤ 20 →
          t.membership = { s.membership with state := .withdrawn, cause := .duplicate } ∧ t.pins.faultLow = true))
  ∧ (∀ (o : Offers) (code : BitVec 16) (banner : Banner) (body : Body) (out : OfferOutcome) (s : State),
    s.EndsRound o ⟨.incident, banner, body⟩ out → s.membership.state = .joining → o.kind = .probe code →
    out = .lostKind ∧ ∃ t, exec (.incidentRound banner body) s = .next t ∧ t.membership = s.membership
      ∧ t.line.align = .aligned ∧ t.line.count = s.line.count + 1)
  ∧ (∀ body : Body, defendPulled body = !body.getMsbD 29)

/-! ### Incidents and captures -/

/-- The end of an INCIDENT round raises NEXT past the agreed number, and never lowers it, at a JOINING station as at a
member (R79, R80). The agreed values stand in the body's four fields, the number and the post code complemented (R79). -/
def Obligations.IncidentRoundRaisesNext : Prop :=
  (∀ body : Body, incidentNumber body = ~~~(body.extractLsb' 16 16) ∧ incidentPreDepth body = body.extractLsb' 12 4
      ∧ incidentPostCode body = ~~~(body.extractLsb' 8 4) ∧ incidentOrigin body = body.extractLsb' 0 8)
  ∧ ∀ (o : Offers) (banner : Banner) (body : Body) (out : OfferOutcome) (s : State),
    s.EndsRound o ⟨.incident, banner, body⟩ out → ∃ t, exec (.incidentRound banner body) s = .next t
      ∧ t.engine.next.toNat = min (max s.engine.next.toNat ((incidentNumber body).toNat + 1)) 65535
      ∧ s.engine.next.toNat ≤ t.engine.next.toNat

/-- A member, IDLE, settles the incident: a capture starts, is missed, or the numbers are exhausted (R60, R82
to R84). A capture's slot takes the opening header (R83, R98), the newest entries of the ring, oldest first, the one k places
from the tail with age k + 1 (R68), and the baselines, which are the latest values of the burst list's inputs (R55). The slot
opened is slot 0 if it is EMPTY, else slot 1 (R97). -/
def Obligations.IdleMemberSettlesTheIncident : Prop :=
  (∀ (o : Offers) (banner : Banner) (body : Body) (out : OfferOutcome) (s : State),
    s.EndsRound o ⟨.incident, banner, body⟩ out → s.membership.state = .member → s.engine.state = .idle →
    o.captureRound = false → s.StaysAwake banner.stay →
    ∃ u : State, exec (.incidentRound banner body) s = .next u.take.refreshFault
      ∧ u.monitors.alertPending = false ∧ (∀ i : Fin 8, u.monitors.inputs[i].tripped = false)
      ∧ (incidentNumber body = 65535 → u.engine.exhausted = true ∧ u.engine.state = .idle
          ∧ u.engine.missed = s.engine.missed)
      ∧ (incidentNumber body ≠ 65535 → incidentNumber body = 0 ∨ o.claims = false →
          u.engine.state = .idle ∧ u.engine.missed = (if s.engine.missed < 15 then s.engine.missed + 1 else s.engine.missed)
            ∧ u.engine.firstMissed = (if s.engine.firstMissed = 0 then incidentNumber body else s.engine.firstMissed)
            ∧ u.staging = s.staging)
      ∧ (incidentNumber body ≠ 65535 → incidentNumber body ≠ 0 → o.claims = true →
          ∀ i, s.staging.toOpen = some i →
            u.engine.state = .capturing ∧ u.engine.primary = incidentNumber body ∧ u.engine.captured = 0
              ∧ u.engine.remaining = (incidentPostCode body).toNat + 1 ∧ u.engine.merges = []
              ∧ u.engine.overflow = false ∧ u.engine.cut = false ∧ u.engine.missed = 0 ∧ u.engine.firstMissed = 0
              ∧ ∃ c, u.staging.slot i = .filling c ∧ c.primary = incidentNumber body
                ∧ c.origin = incidentOrigin body ∧ c.preDepth = incidentPreDepth body
                ∧ c.postCode = incidentPostCode body ∧ c.station = s.membership.number ∧ c.stamp = s.line.count
                ∧ c.missed = s.engine.missed ∧ c.firstMissed = s.engine.firstMissed ∧ c.blocks = []
                ∧ c.burstLength = s.settings.burst.length ∧ c.density = s.settings.density
                ∧ (∀ j : Fin 31, c.roster[j] = u.membership.roster[j].present)
                ∧ c.pre = ringCopy (incidentPreDepth body).toNat u.ring ∧ c.baselines = u.sequencer.baselines
                ∧ u.sequencer.baselines = s.settings.burst.map fun input => s.sequencer.latest[input]))
  ∧ (∀ (q : Nat) (ring : List Pass), (ringCopy q ring).length = min q ring.length
      ∧ ∀ k, k < min q ring.length → (ringCopy q ring)[min q ring.length - 1 - k]?
          = ring[ring.length - 1 - k]?.map fun p => ⟨p.segment, p.short, k + 1, p.samples⟩)
  ∧ (∀ q : Staging, (q.slot0 = .empty → q.toOpen = some .slot0)
      ∧ (q.slot0 ≠ .empty → q.slot1 = .empty → q.toOpen = some .slot1)
      ∧ (q.slot0 ≠ .empty → q.slot1 ≠ .empty → q.toOpen = none))

/-- A member, CAPTURING, counts the capture round, merges the incident and extends the capture (R85, R88, R89, R90). At the
32nd capture round nothing is left to extend: CUT is set and the capture ends at that round end with what the merge added
(R86, R89, R103). A capture round of another kind that leaves rounds to come is counted, and the merges, OVERFLOW, CUT and
the slot stay (R76, R85). -/
def Obligations.CapturingMemberMergesAndExtends : Prop :=
  (∀ (o : Offers) (banner : Banner) (body : Body) (out : OfferOutcome) (s : State),
    s.EndsRound o ⟨.incident, banner, body⟩ out → s.membership.state = .member → s.engine.state = .capturing →
    o.captureRound = true → s.StaysAwake banner.stay →
    let n := incidentNumber body
    let merged := if n = 0 ∨ n = 65535 then s.engine.merges
      else if s.engine.merges.length < 4 then s.engine.merges ++ [n] else s.engine.merges
    let overflowed := s.engine.overflow || (decide (n ≠ 0 ∧ n ≠ 65535 ∧ 4 ≤ s.engine.merges.length))
    (s.engine.captured + 1 < 32 → ∃ t, exec (.incidentRound banner body) s = .next t ∧ t.engine.state = .capturing
      ∧ t.engine.captured = s.engine.captured + 1
      ∧ t.engine.remaining
          = min (max (s.engine.remaining - 1) ((incidentPostCode body).toNat + 1)) (32 - (s.engine.captured + 1))
      ∧ (32 - (s.engine.captured + 1) < (incidentPostCode body).toNat + 1 → t.engine.cut = true)
      ∧ ((incidentPostCode body).toNat + 1 ≤ 32 - (s.engine.captured + 1) → t.engine.cut = s.engine.cut)
      ∧ t.engine.merges = merged ∧ t.engine.overflow = overflowed
      ∧ t.engine.exhausted = (s.engine.exhausted || n == 65535)
      ∧ t.engine.missed = s.engine.missed)
    ∧ (s.engine.captured + 1 = 32 → ∀ i c, s.staging.fillingSlot = some (i, c) →
      ∃ u : State, exec (.incidentRound banner body) s = .next u.take.refreshFault ∧ u.engine.state = .idle
        ∧ u.staging.slot i = .ready c.primary (recordImage c ⟨32, merged, overflowed, true⟩)
        ∧ u.staging.handOver = s.staging.handOver ++ [i] ∧ u.sequencer.baselines = [] ∧ u.arrays = s.arrays
        ∧ u.engine.exhausted = (s.engine.exhausted || n == 65535) ∧ u.engine.missed = s.engine.missed))
  ∧ ∀ (o : Offers) (r : Round) (out : OfferOutcome) (s : State), s.EndsRound o r out → r.kind ≠ .incident →
    s.restarts r = false → s.membership.state = .member → s.engine.state = .capturing → o.captureRound = true →
    s.StaysAwake r.banner.stay → 2 ≤ s.engine.remaining →
    ∃ u : State, exec (roundCommand r) s = .next u.take.refreshFault
      ∧ u.engine = { s.engine with
          captured := s.engine.captured + 1, remaining := s.engine.remaining - 1, due := r.banner.alert }
      ∧ u.staging = s.staging ∧ u.sequencer.baselines = s.sequencer.baselines ∧ u.membership.state = .member

/-- A capture ends: the slot holds its record image, READY and last in the hand-over order, the engine is IDLE, the
baselines clear (R86, R103). At an INCIDENT round the closing fields are those of the merge and the extension (R88, R89).
That the row is that round's end is the model's choice (log entry 6). A capture comes to its end at a capture round end, when
no remaining round is left, or, at an INCIDENT round, which leaves at least one below 32, when it is the 32nd (R85, R86, R89). -/
def Obligations.CaptureEndFinishesTheRecord : Prop :=
  (∀ (o : Offers) (r : Round) (out : OfferOutcome) (s : State), s.EndsRound o r out →
    (s.captureComesToEnd r = true ↔ o.captureRound = true ∧ s.engine.state = .capturing
      ∧ (if r.kind = .incident then 32 ≤ s.engine.captured + 1 else s.engine.remaining ≤ 1)))
  ∧ ∀ (o : Offers) (r : Round) (out : OfferOutcome) (j : StartInputs) (i : SlotId) (c : Construction) (s : State),
    s.EndsRound o r out → s.captureComesToEnd r = true → s.membership.state = .member → s.restarts r = false →
    s.StaysAwake r.banner.stay → s.staging.fillingSlot = some (i, c) →
    ∃ u : State, exec (.captureEnd r j) s = .next u.take.refreshFault ∧ u.engine.state = .idle
      ∧ u.staging.handOver = s.staging.handOver ++ [i] ∧ u.sequencer.baselines = [] ∧ u.arrays = s.arrays
      ∧ u.engine.missed = s.engine.missed
      ∧ (r.kind ≠ .incident → u.engine.next = s.engine.next ∧ u.staging.slot i
          = .ready c.primary
              (recordImage c ⟨s.engine.captured + 1, s.engine.merges, s.engine.overflow, s.engine.cut⟩))
      ∧ (r.kind = .incident →
          let e := mergeAndExtend (readAgreement r.body) (countCaptureRound s.engine)
          e.captured = s.engine.captured + 1 ∧ u.engine.next = nextAfter s.engine.next (incidentNumber r.body)
            ∧ u.staging.slot i = .ready c.primary (recordImage c ⟨e.captured, e.merges, e.overflow, e.cut⟩))

/-- A record image states its own length, ends with the check over the words between, and is 13 to 726 words long (R103,
R104, R188).

Its words by the layout of R187: the header from the primary number to the first missed number, a field a clause; then the
merge list, the passes, the blocks, the baselines and the check, in that order (R103). A pass is its header and its samples; a
baseline that is raw is FFFFh (R187, R188). The check is the CRC-16 of R188: from FFFFh, for each word from bit 15 to bit 0, a
shift, and the exclusive-or with 1021h where the register's top bit differs from the bit. -/
def Obligations.RecordImageFitsItsLimits : Prop :=
  (∀ (c : Construction) (e : Closing), e.merges.length ≤ 4 → c.pre.length ≤ 15 →
    (∀ p ∈ c.pre, p.samples.length ≤ 12) → 1 ≤ c.baselines.length → c.baselines.length ≤ 4 →
    1 ≤ c.blocks.length → c.blocks.length ≤ 32 → (∀ b ∈ c.blocks, 1 ≤ b.length ∧ b.length ≤ 16) →
    13 ≤ (recordImage c e).length ∧ (recordImage c e).length ≤ 726
      ∧ (recordImage c e)[0]? = some 0xFFFF
      ∧ (recordImage c e)[1]? = some (BitVec.ofNat 16 (recordImage c e).length)
      ∧ (recordImage c e).getLast? = some (crc16 ((recordImage c e).dropLast.drop 1)))
  ∧ (∀ (c : Construction) (e : Closing),
      let word := fun k : Nat => (recordImage c e).getD k 0
      word 2 = c.primary
      ∧ (word 3).extractLsb' 8 8 = c.origin ∧ (word 3).extractLsb' 4 4 = c.preDepth
      ∧ (word 3).extractLsb' 0 4 = c.postCode ∧ (word 4).extractLsb' 11 5 = c.station
      ∧ (1 ≤ c.burstLength → c.burstLength ≤ 4 → ((word 4).extractLsb' 9 2).toNat = c.burstLength - 1)
      ∧ (c.density = 1 → (word 4).extractLsb' 7 2 = 0) ∧ (c.density = 2 → (word 4).extractLsb' 7 2 = 1)
      ∧ (c.density = 4 → (word 4).extractLsb' 7 2 = 2)
      ∧ (1 ≤ e.rounds → e.rounds ≤ 32 → ((word 4).extractLsb' 2 5).toNat = e.rounds - 1)
      ∧ (word 4).getLsbD 1 = e.overflow ∧ (word 4).getLsbD 0 = e.cut
      ∧ word 5 = c.stamp.extractLsb' 8 16 ∧ (word 6).extractLsb' 8 8 = c.stamp.extractLsb' 0 8
      ∧ (e.merges.length ≤ 4 → ((word 6).extractLsb' 5 3).toNat = e.merges.length)
      ∧ (c.missed ≤ 15 → ((word 6).extractLsb' 1 4).toNat = c.missed)
      ∧ ((word 6).getLsbD 0 = true ↔ ∃ p ∈ c.pre, p.short = true)
      ∧ (∀ k : Fin 31, k.val < 16 → (word 7).getLsbD (15 - k.val) = c.roster[k])
      ∧ (∀ k : Fin 31, 16 ≤ k.val → (word 8).getLsbD (31 - k.val) = c.roster[k])
      ∧ (word 8).getLsbD 0 = false ∧ word 9 = c.firstMissed
      ∧ (recordImage c e).drop 10 = e.merges ++ (c.pre.map passWords).flatten ++ c.blocks.flatten
          ++ c.baselines.map baselineWord ++ [crc16 ((recordImage c e).dropLast.drop 1)])
  ∧ (∀ p : CopiedPass, passWords p = passHeader p :: p.samples.map (fun x => BitVec.ofNat 16 x.toNat)
      ∧ (p.segment ≤ 15 → ((passHeader p).extractLsb' 12 4).toNat = p.segment)
      ∧ (p.samples.length ≤ 15 → ((passHeader p).extractLsb' 8 4).toNat = p.samples.length)
      ∧ (passHeader p).getLsbD 7 = p.short ∧ (p.age ≤ 127 → ((passHeader p).extractLsb' 0 7).toNat = p.age))
  ∧ (∀ b : Sample, baselineWord (some b) = BitVec.ofNat 16 b.toNat) ∧ baselineWord none = 0xFFFF
  ∧ crc16 [] = 0xFFFF
  ∧ (∀ (ws : List Word) (w : Word), crc16 (ws ++ [w]) = (List.range 16).foldl
      (fun (g : Word) k => if g.msb = w.getMsbD k then g <<< 1 else (g <<< 1) ^^^ 0x1021) (crc16 ws))

/-- The ALERT pin. At a member's INCIDENT round end: low, with a pulse in pulse mode (R93); in level mode low unless the
capture in progress ends there (R94). In level mode any other round end leaves it low exactly while a capture goes on, so
it is released at a capture's end and at the next round end after a miss, and every departure from MEMBER releases it; in
pulse mode neither touches it (R93, R94). The end of the pulse releases it (R93). -/
def Obligations.AlertPinShowsTheIncident : Prop :=
  (∀ (o : Offers) (banner : Banner) (body : Body) (out : OfferOutcome) (s : State),
    s.EndsRound o ⟨.incident, banner, body⟩ out → s.membership.state = .member → s.StaysAwake banner.stay →
    ∃ t, exec (.incidentRound banner body) s = .next t
      ∧ (s.settings.pinMode = .pulse → t.pins.alertLow = true ∧ t.pins.alertPulse = some 0)
      ∧ (s.settings.pinMode = .level → o.captureRound = false → t.pins.alertLow = true)
      ∧ (s.settings.pinMode = .level → o.captureRound = true → s.engine.state = .capturing →
          t.pins.alertLow = !s.captureComesToEnd ⟨.incident, banner, body⟩))
  ∧ (∀ (o : Offers) (r : Round) (out : OfferOutcome) (s : State), s.EndsRound o r out → r.kind ≠ .incident →
      s.restarts r = false → s.membership.state = .member → s.StaysAwake r.banner.stay →
      ∃ t, exec (roundCommand r) s = .next t
        ∧ (s.settings.pinMode = .pulse → t.pins.alertLow = s.pins.alertLow ∧ t.pins.alertPulse = s.pins.alertPulse)
        ∧ (s.settings.pinMode = .level → s.engine.state = .idle → t.pins.alertLow = false)
        ∧ (s.settings.pinMode = .level → s.engine.state = .capturing → o.captureRound = true →
            t.pins.alertLow = !s.captureComesToEnd r))
  ∧ (∀ (e : LineEdge) (o : Offers) (s : State), e.isForeign = true → s.powered = true → s.line.align = .aligned →
      s.membership.state = .member → s.line.round = some o →
      ∃ t u, exec (.foreignPulse e) s = .next t ∧ exec .driverFault s = .next u
        ∧ (s.settings.pinMode = .level → t.pins.alertLow = false ∧ u.pins.alertLow = false)
        ∧ (s.settings.pinMode = .pulse → t.pins.alertLow = s.pins.alertLow ∧ t.pins.alertPulse = s.pins.alertPulse
            ∧ u.pins.alertLow = s.pins.alertLow ∧ u.pins.alertPulse = s.pins.alertPulse))
  ∧ (∀ (o : Offers) (r : Round) (out : OfferOutcome) (i : StartInputs) (s : State), s.EndsRound o r out →
      s.restComesDue r = true → s.restarts r = false → s.settings.pinMode = .level →
      ∃ t, exec (.enterDormant r i) s = .next t ∧ t.pins.alertLow = false)
  ∧ ∀ (n : Nat) (s : State), s.powered = true → s.pins.alertPulse = some n → ∃ t, exec .alertPulseEnd s = .next t
      ∧ t.pins.alertLow = false ∧ t.pins.alertPulse = none ∧ t.line = s.line ∧ t.engine = s.engine ∧ t.arrays = s.arrays

/-! ### Replies, streams and orders -/

/-- The end of a REPLY round: a reply not won, or replaced under R148, stays; a won one empties the outbox, and a stream
goes on with its next word, waits for its bank, or ends (R142, R147). A word of the status block is made up from the blocks
as they have reacted to the round end (R147, R155), but for the round count: that word 11 shows the count the round end hands
over (R13), while the other words show the blocks after their reactions, is the model's reading (log entry 9). A reply is won
by a station that offered REPLY and lost nothing (R9); a stream is at its last word at its length less 1, a status stream at
word 11 (R147). -/
def Obligations.ReplyRoundSettlesTheOutbox : Prop :=
  (∀ (o : Offers) (out : OfferOutcome), replyWon o out = true ↔ (∃ r, o.kind = .reply r) ∧ out = .won)
  ∧ (∀ b p n k q, (Stream.record b p n k q).atLast = true ↔ k + 1 = n)
  ∧ (∀ k, (Stream.status k).atLast = true ↔ k = 11)
  ∧ ∀ (o : Offers) (banner : Banner) (body : Body) (out : OfferOutcome) (s : State),
    s.EndsRound o ⟨.reply, banner, body⟩ out → s.membership.state = .member → s.StaysAwake banner.stay →
    ∃ u : State, exec (.replyRound banner body) s = .next u.take.refreshFault
      ∧ u.arrays = s.arrays ∧ u.store = s.store ∧ u.programmer = s.programmer
      ∧ (replyWon o out = false ∨ s.orders.replaced = true →
          u.orders.outbox = s.orders.outbox ∧ u.orders.stream = s.orders.stream ∧ u.orders.read = s.orders.read)
      ∧ (replyWon o out = true → s.orders.replaced = false →
          (s.orders.stream = none → u.orders.outbox = none ∧ u.orders.stream = none)
          ∧ (∀ st, s.orders.stream = some st → st.atLast = true → u.orders.outbox = none ∧ u.orders.stream = none)
          ∧ (∀ b p n k q, s.orders.stream = some (.record b p n k q) → k + 1 ≠ n →
              u.orders.stream = some (.record b p n (k + 1) q)
                ∧ (s.programmer.programming b = true → u.orders.outbox = none ∧ u.orders.read = .waiting)
                ∧ (s.programmer.programming b = false → u.orders.outbox
                    = some ⟨if k + 2 = n then .last else .data, nvRead (s.arrays.bank b) (p + (k + 1))⟩))
          ∧ (∀ k, s.orders.stream = some (.status k) → k + 1 ≠ 12 →
              u.orders.stream = some (.status (k + 1))
                ∧ (k + 1 < 11 → u.orders.outbox = some ⟨.data, u.statusWord (k + 1)⟩)
                ∧ (k + 1 = 11 → u.orders.outbox = some ⟨.last, s.line.count.extractLsb' 8 16⟩)))

/-- A stream's word that had to wait, once read, is loaded as DATA or LAST; nothing else changes (R147). That the wait
ends with the program and the load is this row is the model's choice (log entry 11). -/
def Obligations.StreamWordIsLoaded : Prop :=
  ∀ (st : Stream) (v : Word) (s : State), s.powered = true → s.orders.stream = some st → s.orders.read = .ready v →
    exec .streamWordLoad s
      = .next (s.setOrders { s.orders with
          outbox := some ⟨if st.atLast then .last else .data, v⟩, read := .none }).refreshFault

/-- FETCH of a number: BUSY from staging, ABSENT, or a record stream with its first word loaded or waiting (R112, R144,
R147).

n is held when a FILLING, READY or COMMITTING slot has primary number n (R112). Store order is the older bank's records by
position, then the newer bank's, each of a bank that is OPEN or CLOSED (R117, R120). Newer is an OPEN bank whose header is
not yet written; else the bank whose value is the successor of the other's; else the one with the greater value; else bank 0
(R116). The record found is the first in store order whose word 2 reads n, in whatever state (R130, R144, R187). A read waits
while a word program is in progress in its bank (R130). -/
def Obligations.FetchAnswersOrStreams : Prop :=
  (∀ (q : Staging) (n : Word), q.held n = true ↔ ∃ i, (∃ c, q.slot i = .filling c ∧ c.primary = n)
      ∨ (∃ w, q.slot i = .ready n w) ∨ ∃ w, q.slot i = .committing n w)
  ∧ (∀ (t : Store) (m : Arrays),
      let part := fun b : BankId => if (t.bank b).state = .opened ∨ (t.bank b).state = .closed
        then (t.bank b).records.map (fun x => (b, x)) else []
      storeOrder t m = part (newerBank t m).other ++ part (newerBank t m))
  ∧ (∀ (t : Store) (m : Arrays),
      let header := fun b => nvRead (m.bank b) 0
      let unwritten := fun b => (t.bank b).state = .opened ∧ header b = 0xFFFF
      (∀ b, unwritten b → ¬unwritten b.other → newerBank t m = b)
      ∧ (¬unwritten .bank0 → ¬unwritten .bank1 →
        (∀ b, header b = sequenceSuccessor (header b.other) → newerBank t m = b)
        ∧ ((∀ b, header b ≠ sequenceSuccessor (header b.other)) →
          (∀ b, (header b.other).toNat < (header b).toNat → newerBank t m = b)
          ∧ (header .bank0 = header .bank1 → newerBank t m = .bank0))))
  ∧ (∀ (t : Store) (m : Arrays) (n : Word),
      let word2 := fun y : BankId × Extent => nvRead (m.bank y.1) (y.2.position + 2)
      (findByNumber t m n = none ↔ ∀ y ∈ storeOrder t m, word2 y ≠ n)
      ∧ ∀ y, findByNumber t m n = some y
          ↔ word2 y = n ∧ ∃ before after, storeOrder t m = before ++ y :: after ∧ ∀ z ∈ before, word2 z ≠ n)
  ∧ (∀ (p : Programmer) (b : BankId), p.programming b = true ↔ ∃ w, p.op = .word w ∧ w.bank = b)
  ∧ ∀ (o : Offers) (out : OfferOutcome) (banner : Banner) (n : Word) (s : State),
    s.TakesOrder o out banner .fetch n → n ≠ 0 → n ≠ 0xFFFF → s.lock = .opened →
    ∃ u : State, exec (.fetch banner n) s = .next u.take.refreshFault ∧ s.OrderLeaves u ∧ u.store = s.store
      ∧ u.lock = .opened ∧ u.orders.awaited = none ∧ u.orders.holding = s.orders.holding
      ∧ u.orders.pulseCount = 0
      ∧ (s.staging.held n = true → u.orders.outbox = some ⟨.busy, n⟩ ∧ u.orders.stream = none)
      ∧ (s.staging.held n = false → findByNumber s.store s.arrays n = none →
          u.orders.outbox = some ⟨.absent, n⟩ ∧ u.orders.stream = none)
      ∧ (∀ b x, s.staging.held n = false → findByNumber s.store s.arrays n = some (b, x) →
          u.orders.stream = some (.record b x.position x.length 0 n)
            ∧ (s.programmer.programming b = true → u.orders.outbox = none ∧ u.orders.read = .waiting)
            ∧ (s.programmer.programming b = false → u.orders.outbox
                = some ⟨if x.length = 1 then .last else .data, nvRead (s.arrays.bank b) x.position⟩))

/-- FETCH 0: the first COMPLETE record in store order is streamed, or ABSENT 0 (R145). COMPLETE is a state word with STARTED and
COMPLETE cleared, READ and VOID set (R119). Store order is the older bank's records, then the newer's, each by position (R120).
Newer is an OPEN bank whose header is not yet written; else the bank whose value is the successor of the other's; else the one
with the greater value; else bank 0 (R116). -/
def Obligations.FetchOldestStreamsTheFirstUnread : Prop :=
  (∀ (t : Store) (m : Arrays),
      let part := fun b : BankId => if (t.bank b).state = .opened ∨ (t.bank b).state = .closed
        then (t.bank b).records.map (fun x => (b, x)) else []
      storeOrder t m = part (newerBank t m).other ++ part (newerBank t m))
  ∧ (∀ (t : Store) (m : Arrays),
      let header := fun b => nvRead (m.bank b) 0
      let unwritten := fun b => (t.bank b).state = .opened ∧ header b = 0xFFFF
      (∀ b, unwritten b → ¬unwritten b.other → newerBank t m = b)
      ∧ (¬unwritten .bank0 → ¬unwritten .bank1 →
        (∀ b, header b = sequenceSuccessor (header b.other) → newerBank t m = b)
        ∧ ((∀ b, header b ≠ sequenceSuccessor (header b.other)) →
          (∀ b, (header b.other).toNat < (header b).toNat → newerBank t m = b)
          ∧ (header .bank0 = header .bank1 → newerBank t m = .bank0))))
  ∧ (∀ (t : Store) (m : Arrays),
      let unread := fun y : BankId × Extent =>
        let w := nvRead (m.bank y.1) y.2.position
        w.getLsbD 0 = false ∧ w.getLsbD 1 = false ∧ w.getLsbD 2 = true ∧ w.getLsbD 3 = true
      (oldestUnread t m = none ↔ ∀ y ∈ storeOrder t m, ¬unread y)
      ∧ ∀ y, oldestUnread t m = some y
          ↔ unread y ∧ ∃ before after, storeOrder t m = before ++ y :: after ∧ ∀ z ∈ before, ¬unread z)
  ∧ ∀ (o : Offers) (out : OfferOutcome) (banner : Banner) (s : State),
    s.TakesOrder o out banner .fetch 0 → s.lock = .opened →
    ∃ u : State, exec (.fetchOldestUnread banner) s = .next u.take.refreshFault ∧ s.OrderLeaves u ∧ u.store = s.store
      ∧ u.lock = .opened ∧ u.orders.awaited = none ∧ u.orders.holding = s.orders.holding
      ∧ (oldestUnread s.store s.arrays = none → u.orders.outbox = some ⟨.absent, 0⟩ ∧ u.orders.stream = none)
      ∧ (∀ b x, oldestUnread s.store s.arrays = some (b, x) →
          u.orders.stream
              = some (.record b x.position x.length 0 (nvRead (s.arrays.bank b) (x.position + 2)))
            ∧ (s.programmer.programming b = true → u.orders.outbox = none ∧ u.orders.read = .waiting)
            ∧ (s.programmer.programming b = false → u.orders.outbox
                = some ⟨if x.length = 1 then .last else .data, nvRead (s.arrays.bank b) x.position⟩))

/-- FETCH 65,535 begins a status stream whatever the lock state; a key sequence under way has ended first, so word 0 shows
MEMBER, and LOCKED or OPEN (R140, R146, R155, R161, R189). What words 1 to 11 of the status block hold, bit by bit, and the
codes of its fields (R155, R189). -/
def Obligations.FetchStatusStreamsTheStatus : Prop :=
  (∀ (o : Offers) (out : OfferOutcome) (banner : Banner) (s : State), s.TakesOrder o out banner .fetch 0xFFFF →
    ∃ u : State, exec (.fetchStatus banner) s = .next u.take.refreshFault ∧ s.OrderLeaves u ∧ u.store = s.store
      ∧ u.orders.stream = some (.status 0) ∧ u.orders.awaited = none ∧ u.orders.holding = s.orders.holding
      ∧ u.lock = (if s.lock = .opened then .opened else .locked)
      ∧ u.orders.outbox = some ⟨.data, 3#3 ++ causeCode s.membership.cause ++ setupFaultCode s.setup.fault
          ++ (if s.lock = .opened then 3#2 else 0#2) ++ 0#6⟩)
  ∧ (∀ s : State,
      s.statusWord 1 = BitVec.ofBool (s.engine.state == .capturing) ++ BitVec.ofBool s.engine.exhausted
          ++ BitVec.ofBool s.monitors.alertPending ++ slotCode s.staging.slot0 ++ slotCode s.staging.slot1
          ++ operationCode s.programmer.op ++ BitVec.ofBool s.workWaiting ++ 0#6
      ∧ s.statusWord 2 = s.engine.next
      ∧ s.statusWord 3 = s.membership.number ++ BitVec.ofNat 2 s.membership.syncLosses ++ 0#9
      ∧ (∀ k : Fin 31, k.val < 16 → (s.statusWord 4).getMsbD k.val = s.membership.roster[k].present)
      ∧ (∀ k : Fin 31, 16 ≤ k.val → (s.statusWord 5).getMsbD (k.val - 16) = s.membership.roster[k].present)
      ∧ (s.statusWord 5).getMsbD 15 = false
      ∧ s.statusWord 6 = bankCode s.store.bank0.state ++ bankCode s.store.bank1.state ++ openBankCode s.store.openBank
          ++ BitVec.ofBool s.store.full ++ 0#7
      ∧ (s.store.openBank = none → s.statusWord 7 = 0)
      ∧ (∀ b, s.store.openBank = some b → (s.store.bank b).state = .erasing → s.statusWord 7 = 0)
      ∧ (∀ b, s.store.openBank = some b → (s.store.bank b).state ≠ .erasing →
          s.statusWord 7 = BitVec.ofNat 16 (16384 - s.store.appendPoint))
      ∧ s.statusWord 8 = BitVec.ofNat 16 s.store.unread ∧ s.statusWord 9 = BitVec.ofNat 16 s.engine.missed
      ∧ s.statusWord 10 = s.engine.firstMissed ∧ s.statusWord 11 = s.line.count.extractLsb' 8 16
      ∧ (s.workWaiting = true ↔ s.programmer.commit ≠ none ∨ s.programmer.pulses ≠ [] ∨ s.programmer.marks ≠ []
          ∨ s.store.voidQueue ≠ [] ∨ s.store.bank0.erasePending = true ∨ s.store.bank1.erasePending = true
          ∨ (∃ i n w, s.staging.slot i = .ready n w)))
  ∧ [MemberState.starting, .seeking, .joining, .member, .dormant, .withdrawn].map memberCode = [0, 1, 2, 3, 4, 5]
  ∧ [Cause.none, .number, .duplicate, .sync, .driver].map causeCode = [0, 1, 2, 3, 4]
  ∧ [SetupFault.none, .range, .check].map setupFaultCode = [0, 1, 2]
  ∧ [Lock.locked, .key1, .key2, .opened].map lockCode = [0, 1, 2, 3]
  ∧ (∀ c n w, [Slot.empty, .filling c, .ready n w, .committing n w].map slotCode = [0, 1, 2, 3])
  ∧ [BankState.fresh, .opened, .closed, .dirty, .erasing, .bad].map bankCode = [0, 1, 2, 3, 4, 5]
  ∧ [some BankId.bank0, some .bank1, none].map openBankCode = [0, 1, 3]
  ∧ (∀ w b h i v k o, [Operation.idle, .word w, .bankErase b h, .pulse (.program i v k o), .pulse (.erase k o)].map
      operationCode = [0, 1, 2, 1, 2])

/-- MARK: REFUSED for 0, ABSENT for 65,535, else handed to the programmer, its report awaited (R150). The Order Unit forgets the
answers it awaits of earlier work, in waiting or in progress, and the work itself goes on (R140, R174). -/
def Obligations.MarkIsHandedOver : Prop :=
  (∀ p : Programmer,
      let q := p.forgetAnswers
      q = { p with marks := q.marks, pulses := q.pulses, op := q.op }
      ∧ q.marks = p.marks.map (fun j => ⟨j.number, false⟩)
      ∧ q.pulses = p.pulses.map (fun
          | .program i v k _ => .program i v k false
          | .erase k _ => .erase k false)
      ∧ (∀ w n a, p.op = .word w → w.purpose = .mark n a → q.op = .word { w with purpose := .mark n false })
      ∧ (∀ i v k a, p.op = .pulse (.program i v k a) → q.op = .pulse (.program i v k false))
      ∧ (∀ k a, p.op = .pulse (.erase k a) → q.op = .pulse (.erase k false))
      ∧ ((∀ w n a, p.op = .word w → w.purpose ≠ .mark n a) → (∀ u, p.op ≠ .pulse u) → q.op = p.op))
  ∧ ∀ (o : Offers) (out : OfferOutcome) (banner : Banner) (n : Word) (s : State),
    s.TakesOrder o out banner .mark n → s.lock = .opened →
    ∃ u : State, exec (.mark banner n) s = .next u.take.refreshFault ∧ s.OrderLeaves u ∧ u.store = s.store
      ∧ u.lock = .opened ∧ u.orders.stream = none ∧ u.orders.holding = s.orders.holding
      ∧ (n = 0 → u.orders.outbox = some ⟨.refused, 1⟩ ∧ u.orders.awaited = none
          ∧ u.programmer.marks = s.programmer.forgetAnswers.marks)
      ∧ (n = 0xFFFF → u.orders.outbox = some ⟨.absent, 0xFFFF⟩ ∧ u.orders.awaited = none
          ∧ u.programmer.marks = s.programmer.forgetAnswers.marks)
      ∧ (n ≠ 0 → n ≠ 0xFFFF → u.orders.outbox = none ∧ u.orders.awaited = some n
          ∧ u.programmer.marks = s.programmer.forgetAnswers.marks ++ [⟨n, true⟩])

/-- UNLOCK under each class of key, from each lock state (R158, R159, R160). -/
def Obligations.UnlockMovesTheLock : Prop :=
  ∀ (o : Offers) (out : OfferOutcome) (banner : Banner) (part : Word) (s : State),
    s.TakesOrder o out banner .unlock part →
    ∃ u : State, exec (.unlock banner part) s = .next u.take.refreshFault ∧ s.OrderLeaves u ∧ u.store = s.store
      ∧ u.orders.holding = s.orders.holding ∧ u.orders.stream = none
      ∧ (s.settings.key = ⟨0xFFFF, 0xFFFF, 0xFFFF⟩ → u.lock = .opened ∧ u.orders.outbox = some ⟨.done, 3⟩)
      ∧ (s.settings.key = ⟨0, 0, 0⟩ → u.lock = .locked ∧ u.orders.outbox = some ⟨.refused, 3⟩)
      ∧ (s.settings.key ≠ ⟨0xFFFF, 0xFFFF, 0xFFFF⟩ → s.settings.key ≠ ⟨0, 0, 0⟩ →
          (s.lock = .locked → part = s.settings.key.part1 →
            u.lock = .key1 ∧ u.orders.outbox = some ⟨.pending, 1⟩)
          ∧ (s.lock = .locked → part ≠ s.settings.key.part1 →
            u.lock = .locked ∧ u.orders.outbox = some ⟨.locked, 0⟩)
          ∧ (s.lock = .key1 → part = s.settings.key.part2 → u.lock = .key2 ∧ u.orders.outbox = some ⟨.pending, 2⟩)
          ∧ (s.lock = .key1 → part ≠ s.settings.key.part2 → u.lock = .locked ∧ u.orders.outbox = some ⟨.locked, 0⟩)
          ∧ (s.lock = .key2 → part = s.settings.key.part3 → u.lock = .opened ∧ u.orders.outbox = some ⟨.done, 3⟩)
          ∧ (s.lock = .key2 → part ≠ s.settings.key.part3 → u.lock = .locked ∧ u.orders.outbox = some ⟨.locked, 0⟩)
          ∧ (s.lock = .opened → u.lock = .opened ∧ u.orders.outbox = some ⟨.done, 3⟩))

/-- RELOCK locks and answers DONE 0 whatever the lock state; LOAD, with the lock OPEN, sets the holding word, clears the
pulse count and echoes its argument (R151, R162). -/
def Obligations.RelockAndLoadAnswerDone : Prop :=
  ∀ (o : Offers) (out : OfferOutcome) (banner : Banner) (arg : Word) (s : State),
    (s.TakesOrder o out banner .relock arg →
      ∃ u : State, exec (.relock banner arg) s = .next u.take.refreshFault ∧ s.OrderLeaves u ∧ u.store = s.store
        ∧ u.lock = .locked ∧ u.orders.outbox = some ⟨.done, 0⟩ ∧ u.orders.stream = none
        ∧ u.orders.awaited = none ∧ u.orders.holding = s.orders.holding)
    ∧ (s.TakesOrder o out banner .load arg → s.lock = .opened →
      ∃ u : State, exec (.load banner arg) s = .next u.take.refreshFault ∧ s.OrderLeaves u ∧ u.store = s.store
        ∧ u.lock = .opened ∧ u.orders.outbox = some ⟨.done, arg⟩ ∧ u.orders.holding = arg
        ∧ u.orders.pulseCount = 0 ∧ u.orders.pulseIndex = none ∧ u.orders.stream = none)

/-- PROGRAM: REFUSED past word 30, which breaks a sequence under way (R153); BUSY with the pulse count 0 and its index cleared
during a bank erase, else one pulse of the holding word counted and handed; the fourth owes the answer (R140, R170). -/
def Obligations.ProgramHandsOnePulse : Prop :=
  ∀ (o : Offers) (out : OfferOutcome) (banner : Banner) (i : Word) (s : State),
    s.TakesOrder o out banner .program i → s.lock = .opened →
    ∃ u : State, exec (.program banner i) s = .next u.take.refreshFault ∧ s.OrderLeaves u ∧ u.store = s.store
      ∧ u.lock = .opened ∧ u.orders.holding = s.orders.holding ∧ u.orders.stream = none
      ∧ (31 ≤ i.toNat → u.orders.outbox = some ⟨.refused, 1⟩ ∧ u.setup.owed = .none
          ∧ u.programmer.pulses = s.programmer.forgetAnswers.pulses
          ∧ (s.orders.pulseIndex ≠ some (.program i.toNat) → u.orders.pulseCount = 0 ∧ u.orders.pulseIndex = none))
      ∧ (i.toNat < 31 → s.bankErasing = true → u.orders.outbox = some ⟨.busy, i⟩ ∧ u.orders.pulseCount = 0
          ∧ u.orders.pulseIndex = none ∧ u.setup.owed = .none
          ∧ u.programmer.pulses = s.programmer.forgetAnswers.pulses)
      ∧ (i.toNat < 31 → s.bankErasing = false →
          let k := if s.orders.pulseIndex = some (.program i.toNat) then s.orders.pulseCount + 1 else 1
          (k = 4 → u.orders.outbox = none ∧ u.orders.pulseCount = 0 ∧ u.orders.pulseIndex = none
            ∧ u.setup.owed = .program i.toNat
            ∧ u.programmer.pulses
                = s.programmer.forgetAnswers.pulses ++ [.program i.toNat s.orders.holding 4 true])
          ∧ (k ≠ 4 → u.orders.outbox = some ⟨.pending, BitVec.ofNat 16 k⟩ ∧ u.orders.pulseCount = k
            ∧ u.orders.pulseIndex = some (.program i.toNat) ∧ u.setup.owed = .none
            ∧ u.programmer.pulses
                = s.programmer.forgetAnswers.pulses ++ [.program i.toNat s.orders.holding k false]))

/-- ERASE of a bank: BUSY while a commit writes it or a bank erase runs, else an erase pending and PENDING; any argument
above 2 is REFUSED (R129, R152). A commit writes its own bank alone: while its header write is in progress, and from the
STARTED step on while the commit stands, which a COMPLETE or a VOID step ends, as CommitGoesOnToComplete and
FailedCommitEndsVoid say (R122, R123, R152). -/
def Obligations.EraseGivesThePendingErase : Prop :=
  (∀ (b : BankId) (s : State), s.commitWriting b = true
      ↔ (∃ c, s.programmer.commit = some c ∧ c.bank = b)
        ∨ (s.programmer.commit = none ∧ ∃ w, s.programmer.op = .word w ∧ w.purpose = .header ∧ w.bank = b))
  ∧ (∀ s : State, s.bankErasing = true ↔ ∃ b h, s.programmer.op = .bankErase b h)
  ∧ (∀ (t : Store) (b : BankId), ((t.setPending b).bank b) = { t.bank b with erasePending := true }
      ∧ (t.setPending b).bank b.other = t.bank b.other
      ∧ t.setPending b = { t with bank0 := (t.setPending b).bank0, bank1 := (t.setPending b).bank1 })
  ∧ ∀ (o : Offers) (out : OfferOutcome) (banner : Banner) (arg : Word) (s : State),
    s.TakesOrder o out banner .erase arg → s.lock = .opened → arg ≠ 2 →
    ∃ u : State, exec (.erase banner arg) s = .next u.take.refreshFault ∧ s.OrderLeaves u ∧ u.lock = .opened
      ∧ u.orders.holding = s.orders.holding ∧ u.orders.stream = none ∧ u.orders.pulseCount = 0
      ∧ (∀ b, arg = (if b = .bank0 then 0 else 1) →
          (s.commitWriting b = true ∨ s.bankErasing = true →
            u.orders.outbox = some ⟨.busy, arg⟩ ∧ u.store = s.store)
          ∧ (s.commitWriting b = false → s.bankErasing = false →
            u.orders.outbox = some ⟨.pending, arg⟩ ∧ u.store = s.store.setPending b))
      ∧ (arg ≠ 0 → arg ≠ 1 → u.orders.outbox = some ⟨.refused, 1⟩ ∧ u.store = s.store)

/-- ERASE 2: BUSY with the pulse count 0 and its index cleared during a bank erase, else one erase pulse counted and handed;
the eighth owes the answer (R140, R172). -/
def Obligations.EraseSetupHandsOnePulse : Prop :=
  ∀ (o : Offers) (out : OfferOutcome) (banner : Banner) (s : State),
    s.TakesOrder o out banner .erase 2 → s.lock = .opened →
    ∃ u : State, exec (.eraseSetupPulse banner) s = .next u.take.refreshFault ∧ s.OrderLeaves u ∧ u.store = s.store
      ∧ u.lock = .opened ∧ u.orders.holding = s.orders.holding ∧ u.orders.stream = none
      ∧ (s.bankErasing = true → u.orders.outbox = some ⟨.busy, 2⟩ ∧ u.orders.pulseCount = 0
          ∧ u.orders.pulseIndex = none ∧ u.setup.owed = .none
          ∧ u.programmer.pulses = s.programmer.forgetAnswers.pulses)
      ∧ (s.bankErasing = false →
          let k := if s.orders.pulseIndex = some .erase then s.orders.pulseCount + 1 else 1
          (k = 8 → u.orders.outbox = none ∧ u.orders.pulseCount = 0 ∧ u.orders.pulseIndex = none
            ∧ u.setup.owed = .erase
            ∧ u.programmer.pulses = s.programmer.forgetAnswers.pulses ++ [.erase 8 true])
          ∧ (k ≠ 8 → u.orders.outbox = some ⟨.pending, BitVec.ofNat 16 k⟩ ∧ u.orders.pulseCount = k
            ∧ u.orders.pulseIndex = some .erase ∧ u.setup.owed = .none
            ∧ u.programmer.pulses = s.programmer.forgetAnswers.pulses ++ [.erase k false]))

/-- RESTART taken with the lock OPEN is a start, with no reply (R1, R154). -/
def Obligations.RestartIsAStart : Prop :=
  ∀ (o : Offers) (out : OfferOutcome) (banner : Banner) (arg : Word) (i : StartInputs) (s : State),
    s.TakesOrder o out banner .restart arg → s.lock = .opened →
    exec (.restart banner arg i) s = exec (.start i) s
      ∧ ∃ t, exec (.restart banner arg i) s = .next t ∧ t.orders.outbox = none ∧ t.lock = .locked
        ∧ t.staging = State.reset.staging

/-- An order that needs the lock, taken while it is not OPEN: answered LOCKED 0, the pulse count 0, a key sequence ended,
nothing else done (R140, R141, R161, R164). Every order needs it but UNLOCK, RELOCK and FETCH 65,535 (R164). -/
def Obligations.LockedStationRefusesTheOrder : Prop :=
  (∀ (code : OrderCode) (arg : Word), needsOpenLock code arg = true
      ↔ code ≠ .unlock ∧ code ≠ .relock ∧ ¬(code = .fetch ∧ arg = 0xFFFF))
  ∧ ∀ (o : Offers) (out : OfferOutcome) (banner : Banner) (code : OrderCode) (arg : Word) (i : StartInputs) (s : State),
    s.TakesOrder o out banner code arg → needsOpenLock code arg = true → s.lock ≠ .opened →
    ∃ u : State, exec (orderCommand banner code arg i) s = .next u.take.refreshFault ∧ s.OrderLeaves u
      ∧ u.store = s.store ∧ u.lock = .locked ∧ u.orders.outbox = some ⟨.locked, 0⟩ ∧ u.orders.stream = none
      ∧ u.orders.awaited = none ∧ u.orders.pulseCount = 0 ∧ u.orders.pulseIndex = none
      ∧ u.orders.holding = s.orders.holding ∧ u.programmer.marks = s.programmer.forgetAnswers.marks
      ∧ u.programmer.pulses = s.programmer.forgetAnswers.pulses

/-- An ORDER round the station does not take leaves the Order Unit's sequence, holding word and lock as they are (R139,
R161, R174). An ORDER_ROUND whose body is an order to this station does what that order's own row does (R139). The body holds
the target, the order's code of section 9.1 and the argument, with the check (R185, R186). -/
def Obligations.ForeignOrderIsNotTaken : Prop :=
  (∀ (o : Offers) (banner : Banner) (body : Body) (i : StartInputs) (out : OfferOutcome) (s : State),
    s.EndsRound o ⟨.order, banner, body⟩ out → s.StaysAwake banner.stay →
    (checkGood .order body = false ∨ orderTarget body ≠ s.membership.number ∨ s.membership.state ≠ .member) →
    ∃ u : State, exec (.orderRound banner body i) s = .next u.take.refreshFault
      ∧ u.orders.outbox = s.orders.outbox ∧ u.orders.stream = s.orders.stream
      ∧ u.orders.pulseCount = s.orders.pulseCount ∧ u.orders.pulseIndex = s.orders.pulseIndex
      ∧ u.orders.holding = s.orders.holding ∧ (s.lock ≠ .opened → u.lock = s.lock)
      ∧ u.store = s.store ∧ u.arrays = s.arrays ∧ u.programmer = s.programmer ∧ u.setup = s.setup)
  ∧ ∀ (banner : Banner) (code : OrderCode) (arg : Word) (i : StartInputs) (s : State),
      exec (.orderRound banner (orderBody s.membership.number code arg) i) s = exec (orderCommand banner code arg i) s
      ∧ orderBody s.membership.number code arg = framedBody (s.membership.number
          ++ BitVec.ofNat 3 ([OrderCode.fetch, .mark, .unlock, .relock, .load, .program, .erase, .restart].idxOf code)
          ++ arg)

/-- The open timer reaches its timeout at a round end with no order taken: the lock is LOCKED, the timer 0, the outbox
and any stream untouched (R156, R162). That the row is that round's end is the model's choice (log entry 6). Below the
timeout the timer rises by one and the lock stays OPEN; while the lock is not OPEN, or with no timeout, the timer stands
still, and the lock stays (R156). -/
def Obligations.OpenTimerLocks : Prop :=
  (∀ (o : Offers) (r : Round) (out : OfferOutcome) (s : State), s.EndsRound o r out →
    (s.openTimerComesDue r = true ↔ s.membership.state = .member ∧ s.lock = .opened ∧ s.takenOrder r = none
      ∧ s.settings.openTimeout = some (s.orders.openTimer + 1)))
  ∧ (∀ (o : Offers) (r : Round) (out : OfferOutcome) (i : StartInputs) (s : State), s.EndsRound o r out →
    s.openTimerComesDue r = true → s.StaysAwake r.banner.stay → replyWon o out = false →
    ∃ u : State, exec (.openTimerExpiry r i) s = .next u.take.refreshFault ∧ u.lock = .locked
      ∧ u.orders = { s.orders with openTimer := 0 } ∧ u.arrays = s.arrays ∧ u.programmer = s.programmer)
  ∧ ∀ (o : Offers) (r : Round) (out : OfferOutcome) (s : State), s.EndsRound o r out → s.takenOrder r = none →
    s.membership.state = .member → s.StaysAwake r.banner.stay →
    ∃ u : State, exec (roundCommand r) s = .next u.take.refreshFault ∧ u.arrays = s.arrays
      ∧ u.programmer = s.programmer
      ∧ (∀ limit, s.lock = .opened → s.settings.openTimeout = some limit → s.orders.openTimer + 1 < limit →
          u.lock = .opened ∧ u.orders.openTimer = s.orders.openTimer + 1)
      ∧ (s.lock ≠ .opened ∨ s.settings.openTimeout = none →
          u.lock = s.lock ∧ u.orders.openTimer = s.orders.openTimer)

/-! ### The non-volatile arrays -/

/-- A commit's word is written: the next word is due, or, at the COMPLETE step, the append point is past the record, the
unread count one higher and the slot EMPTY (R109, R121, R123); and the record, STARTED until then with its READ bit still
set, reads COMPLETE (R119, R187). -/
def Obligations.CommitGoesOnToComplete : Prop :=
  ∀ (w : WordOp) (c : Commit) (missed : Word) (s : State), s.powered = true → s.arrays.wf = true →
    s.programmer.op = .word w → w.purpose = .commitWord → s.programmer.commit = some c →
    w.address < Config.bankWords →
    programmedWord (nvRead (s.arrays.bank w.bank) w.address) w.value missed = w.meant →
    ∃ u : State, exec (.wordProgramDone missed) s = .next u.take.refreshFault ∧ u.programmer.op = .idle
      ∧ nvRead (u.arrays.bank w.bank) w.address = w.meant
      ∧ (∀ b a, (b ≠ w.bank ∨ a ≠ w.address) → nvRead (u.arrays.bank b) a = nvRead (s.arrays.bank b) a)
      ∧ (c.next ≠ c.length → u.programmer.commit = some { c with next := c.next + 1 } ∧ u.store = s.store
          ∧ u.staging = s.staging)
      ∧ (c.next = c.length → u.programmer.commit = none ∧ u.staging = s.staging.setSlot c.slot .empty
          ∧ u.store = { s.store with appendPoint := c.start + c.length, unread := s.store.unread + 1 })
      ∧ (c.next = c.length → w.bank = c.bank → w.address = c.start → w.value = 0xFFFD →
          w.meant = nvRead (s.arrays.bank c.bank) c.start &&& 0xFFFD →
          recordState (nvRead (s.arrays.bank c.bank) c.start) = .started →
          (nvRead (s.arrays.bank c.bank) c.start).getLsbD 2 = true →
          recordState (nvRead (u.arrays.bank c.bank) c.start) = .complete)

/-- A commit word that fails its third verify: the VOID step of its record begins. When that step ends, its verify passed at
any attempt or failed at the third, the commit ends VOID: the append point past the record, the bank CLOSED, no bank OPEN,
the slot EMPTY, the unread count unchanged (R109, R122). That the VOID step begins at once is the model's choice (log entry
12). -/
def Obligations.FailedCommitEndsVoid : Prop :=
  ∀ (w : WordOp) (c : Commit) (missed : Word) (s : State), s.powered = true → s.programmer.op = .word w →
    s.programmer.commit = some c → w.address < Config.bankWords → s.arrays.wf = true →
    let passes := programmedWord (nvRead (s.arrays.bank w.bank) w.address) w.value missed = w.meant
    (w.purpose = .commitWord → 3 ≤ w.attempt → ¬passes →
      ∃ t v, exec (.wordProgramDone missed) s = .next t ∧ t.programmer.op = .word v ∧ v.purpose = .commitVoid
        ∧ v.bank = c.bank ∧ v.address = c.start ∧ v.value = 0xFFF7 ∧ v.attempt = 1
        ∧ t.store = s.store ∧ t.staging = s.staging)
    ∧ (w.purpose = .commitVoid → passes ∨ 3 ≤ w.attempt →
      ∃ u : State, exec (.wordProgramDone missed) s = .next u.take.refreshFault ∧ u.programmer.commit = none
        ∧ (u.store.bank c.bank).state = .closed ∧ u.store.openBank = none
        ∧ u.store.appendPoint = c.start + c.length ∧ u.store.unread = s.store.unread
        ∧ u.staging = s.staging.setSlot c.slot .empty)

/-- A MARK's READ step ends: written at any attempt, the record is READ, the unread count one lower, and the answer DONE if
still awaited; failed at the third attempt, the record is still COMPLETE and counted, and the answer REFUSED 2 if still
awaited (R114, R128, R150). Nothing else of the Order Unit changes but a read that waited for the word program (R130, R147):
a stream that runs goes on. -/
def Obligations.MarkEndsWithItsReport : Prop :=
  ∀ (w : WordOp) (n : Word) (awaited : Bool) (missed : Word) (s : State), s.powered = true → s.arrays.wf = true →
    s.programmer.op = .word w → w.purpose = .mark n awaited → w.address < Config.bankWords → w.value = 0xFFFB →
    w.meant = nvRead (s.arrays.bank w.bank) w.address &&& 0xFFFB →
    recordState (nvRead (s.arrays.bank w.bank) w.address) = .complete →
    let reported := fun (u : State) (r : Reply) =>
      (awaited = true → u.orders
          = { s.orders with outbox := some r, awaited := none, read := u.orders.read })
        ∧ (awaited = false → u.orders = { s.orders with read := u.orders.read })
        ∧ (s.orders.read ≠ .waiting ∨ s.orders.stream = none → u.orders.read = s.orders.read)
    (missed &&& 4 = 0 → ∃ u : State, exec (.wordProgramDone missed) s = .next u.take.refreshFault
      ∧ recordState (nvRead (u.arrays.bank w.bank) w.address) = .read
      ∧ u.store = { s.store with unread := s.store.unread - 1 } ∧ reported u ⟨.done, n⟩)
    ∧ (3 ≤ w.attempt → missed &&& 4 ≠ 0 → ∃ u : State, exec (.wordProgramDone missed) s = .next u.take.refreshFault
      ∧ recordState (nvRead (u.arrays.bank w.bank) w.address) = .complete ∧ u.store = s.store
      ∧ reported u ⟨.refused, 2⟩)

/-- A header word ends: written, the head slot is COMMITTING and its commit stands before its STARTED step; failed three
times, the bank is DIRTY with an erase pending and no bank is OPEN (R108, R118, R121). -/
def Obligations.HeaderOpensTheBankOrCondemnsIt : Prop :=
  ∀ (w : WordOp) (missed : Word) (s : State), s.powered = true → s.arrays.wf = true → s.programmer.op = .word w →
    w.purpose = .header → w.address = 0 →
    (∀ i p img, s.staging.head = some (i, p, img) →
      programmedWord (nvRead (s.arrays.bank w.bank) 0) w.value missed = w.meant →
      ∃ u : State, exec (.wordProgramDone missed) s = .next u.take.refreshFault
        ∧ u.programmer.commit = some ⟨i, w.bank, s.store.appendPoint, img.length, 0⟩
        ∧ u.staging.slot i = .committing p img ∧ u.staging.handOver = s.staging.handOver.drop 1
        ∧ u.store = s.store)
    ∧ (w.attempt = 3 → programmedWord (nvRead (s.arrays.bank w.bank) 0) w.value missed ≠ w.meant →
      ∃ u : State, exec (.wordProgramDone missed) s = .next u.take.refreshFault
        ∧ (u.store.bank w.bank).state = .dirty ∧ (u.store.bank w.bank).erasePending = true
        ∧ u.store.openBank = none ∧ u.staging = s.staging)

/-- One attempt of a word program: a failed verify before the third attempt programs the same word again, and the array holds
the old value ANDed with what the attempt cleared (R113, R114). The last attempt ends the program: a stream's read that waits
for a word of the bank then returns the value the word holds (R130, R147), no other read is touched, and what asked for the
word goes on from the state `u`; that the word read is loaded later, by STREAM_WORD_LOAD, is the model's reading (log entry
11). A program past the end of its bank stops the machine: the
bank has no such word (log entry 25). -/
def Obligations.AttemptIsRetriedOrStops : Prop :=
  (∀ (w : WordOp) (missed : Word) (s : State), s.powered = true → s.arrays.wf = true →
      s.programmer.op = .word w → w.address < Config.bankWords → w.attempt < 3 →
      programmedWord (nvRead (s.arrays.bank w.bank) w.address) w.value missed ≠ w.meant →
      ∃ t, exec (.wordProgramDone missed) s = .next t
        ∧ t.programmer = { s.programmer with op := .word { w with attempt := w.attempt + 1 }, elapsed := 0 }
        ∧ nvRead (t.arrays.bank w.bank) w.address
            = nvRead (s.arrays.bank w.bank) w.address &&& (w.value ||| missed)
        ∧ (∀ b a, (b ≠ w.bank ∨ a ≠ w.address) → nvRead (t.arrays.bank b) a = nvRead (s.arrays.bank b) a)
        ∧ t.arrays.setup = s.arrays.setup ∧ t.store = s.store ∧ t.staging = s.staging ∧ t.orders = s.orders)
  ∧ (∀ (w : WordOp) (missed : Word) (s : State), s.powered = true → s.arrays.wf = true →
      s.programmer.op = .word w → w.address < Config.bankWords →
      3 ≤ w.attempt ∨ programmedWord (nvRead (s.arrays.bank w.bank) w.address) w.value missed = w.meant →
      ∃ (u : State) (passed : Bool), exec (.wordProgramDone missed) s = .next (u.wordEnded w passed).refreshFault
        ∧ (passed = true ↔ programmedWord (nvRead (s.arrays.bank w.bank) w.address) w.value missed = w.meant)
        ∧ u.programmer = { s.programmer with op := .idle, elapsed := 0 } ∧ u.store = s.store ∧ u.staging = s.staging
        ∧ nvRead (u.arrays.bank w.bank) w.address
            = nvRead (s.arrays.bank w.bank) w.address &&& (w.value ||| missed)
        ∧ (∀ b a, (b ≠ w.bank ∨ a ≠ w.address) → nvRead (u.arrays.bank b) a = nvRead (s.arrays.bank b) a)
        ∧ (∀ p n k q, s.orders.stream = some (.record w.bank p n k q) → s.orders.read = .waiting →
            u.orders = { s.orders with read := .ready (nvRead (u.arrays.bank w.bank) (p + k)) })
        ∧ (∀ p n k q, s.orders.stream = some (.record w.bank.other p n k q) → u.orders = s.orders)
        ∧ (s.orders.read ≠ .waiting → u.orders = s.orders))
  ∧ (∀ (w : WordOp) (missed : Word) (s : State), s.powered = true → s.programmer.op = .word w →
      Config.bankWords ≤ w.address → exec (.wordProgramDone missed) s = .fault .addressOutsideBank)

/-- A bank erase ends: every word FFFFh and the bank FRESH, or OPEN if it was, no bank counting as BAD for having been BAD
before; or BAD with FAULT low and its header programmed to 0000h; the other bank and the setup block unchanged (R43, R115,
R129, log entry 30). -/
def Obligations.BankEraseEndsFreshOrBad : Prop :=
  ∀ (b : BankId) (h : Word) (unset : WordMasks) (missed : Word) (s : State), s.powered = true → s.arrays.wf = true →
    s.programmer.op = .bankErase b h →
    ∃ u : State, exec (.bankEraseDone unset missed) s = .next u.take.refreshFault ∧ u.programmer.op = .idle
      ∧ u.arrays.bank b.other = s.arrays.bank b.other ∧ u.arrays.setup = s.arrays.setup
      ∧ u.store.bank b.other = s.store.bank b.other ∧ u.store.stillBad = false
      ∧ (nvErase (s.arrays.bank b) unset = [] → (∀ a, nvRead (u.arrays.bank b) a = 0xFFFF)
          ∧ (s.store.openBank ≠ some b → (u.store.bank b).state = .fresh ∧ u.store.openBank = s.store.openBank)
          ∧ (s.store.openBank = some b → (u.store.bank b).state = .opened ∧ u.store.openBank = some b
              ∧ u.store.appendPoint = 1)
          ∧ (s.membership.state ≠ .withdrawn → s.setup.fault = .none → (s.store.bank b.other).state ≠ .bad →
              u.faultCondition = false))
      ∧ (nvErase (s.arrays.bank b) unset ≠ [] → (u.store.bank b).state = .bad
          ∧ (s.store.openBank = some b → u.store.openBank = none)
          ∧ u.take.refreshFault.pins.faultLow = true
          ∧ (missed = 0 → nvRead (u.arrays.bank b) 0 = 0))

/-- A bank erase begins: the bank ERASING with no records and no erase pending, its queued VOIDs dropped, the unread
count lower by its COMPLETE records, a stream on it ended with ABSENT (R115, R132, R148). That the condemn write takes
effect at the beginning is the model's choice (log entry 13), and that FAULT holds for a bank that was BAD is its reading of
R43 and R129 (log entry 30). The records counted are those whose state word reads COMPLETE (R115, R119). -/
def Obligations.BankEraseBeginsByCondemning : Prop :=
  (∀ (m : Nv) (xs : List Extent),
      completeCount m xs = xs.countP fun x => recordState (nvRead m x.position) = .complete)
  ∧ ∀ (b : BankId) (s : State), s.arrays.wf = true →
    (s.beginBankErase b).store.bank b = ⟨.erasing, false, []⟩
    ∧ (s.beginBankErase b).store.bank b.other = s.store.bank b.other
    ∧ (s.beginBankErase b).store.unread
        = s.store.unread - completeCount (s.arrays.bank b) (s.store.bank b).records
    ∧ (∀ x ∈ (s.beginBankErase b).store.voidQueue, x.1 ≠ b)
    ∧ nvRead ((s.beginBankErase b).arrays.bank b) 0 = 0
    ∧ (s.beginBankErase b).arrays.bank b.other = s.arrays.bank b.other
    ∧ (∀ p n k q, s.orders.stream = some (.record b p n k q) →
        (s.beginBankErase b).orders.stream = none ∧ (s.beginBankErase b).orders.outbox = some ⟨.absent, q⟩
          ∧ (s.beginBankErase b).orders.replaced = true)
    ∧ ((s.store.bank b).state = .bad → (s.beginBankErase b).faultCondition = true)
    ∧ (∀ k, s.orders.stream = some (.status k) → (s.beginBankErase b).orders = s.orders)
    ∧ (∀ p n k q, s.orders.stream = some (.record b.other p n k q) → (s.beginBankErase b).orders = s.orders)

/-- The programmer, when IDLE, takes the first level that has work; busy, it takes nothing (R131, R132). 1: the oldest setup
pulse. 2: the oldest MARK, whose READ step begins when its record is COMPLETE, and which is reported ABSENT, if still
awaited, when there is none or it is in another state (R128, R150). 3: the next word of the commit, STARTED, the words of the
image from the length to the check, COMPLETE; or the room check of the head slot, and the first word of the commit it begins:
the header when it reads FFFFh (R118), else the slot is taken and STARTED begins (R108, R121, R124). 4 and 5, with no slot
that heads the hand-over order or behind one that waits for room: the oldest VOID mark, then a pending erase, bank 0's first,
which begins as BankEraseBeginsByCondemning says (R115, R132, R148; log entries 13 and 30). That a VOID
record leaves its queue as its step begins is the model's choice (log entry 31). The head slot is the READY slot that stands
first in the hand-over order, and a slot taken keeps its image (R103, R108). -/
def Obligations.ProgrammerTakesTheFirstLevel : Prop :=
  (∀ (q : Staging) i n w, q.head = some (i, n, w)
      ↔ (∃ rest, q.handOver = i :: rest) ∧ q.slot i = .ready n w)
  ∧ (∀ n w, (Slot.ready n w).image = w ∧ (Slot.committing n w).image = w)
  ∧ ∀ s : State,
    (s.programmer.op ≠ .idle → s.take = s)
    ∧ (∀ p ps, s.programmer.op = .idle → s.programmer.pulses = p :: ps →
        s.take.programmer.op = .pulse p ∧ s.take.programmer.pulses = ps ∧ s.take.arrays = s.arrays)
    ∧ (∀ j js b x, s.programmer.op = .idle → s.programmer.pulses = [] → s.programmer.marks = j :: js →
        findByNumber s.store s.arrays j.number = some (b, x) → extentState (s.arrays.bank b) x = .complete →
        s.take.programmer.op = .word ⟨.mark j.number j.awaited, b, x.position, 0xFFFB,
            nvRead (s.arrays.bank b) x.position &&& 0xFFFB, 1⟩
          ∧ s.take.programmer.marks = js ∧ s.take.orders = s.orders)
    ∧ (∀ j js, s.programmer.op = .idle → s.programmer.pulses = [] → s.programmer.marks = j :: js →
        (∀ b x, findByNumber s.store s.arrays j.number = some (b, x) → extentState (s.arrays.bank b) x ≠ .complete) →
        s.take = ((s.setOrders (if j.awaited then { s.orders with outbox := some ⟨.absent, j.number⟩, awaited := none }
            else s.orders)).setProgrammer { s.programmer with marks := js }).take)
    ∧ (∀ c, s.programmer.op = .idle → s.programmer.pulses = [] → s.programmer.marks = [] →
        s.programmer.commit = some c →
        (c.next = 0 → s.take.programmer.op = .word ⟨.commitWord, c.bank, c.start, 0xFFFE,
            nvRead (s.arrays.bank c.bank) c.start &&& 0xFFFE, 1⟩
          ∧ (s.take.store.bank c.bank).records = (s.store.bank c.bank).records ++ [⟨c.start, c.length⟩])
        ∧ (∀ v, c.next ≠ 0 → c.next ≠ c.length → (s.staging.slot c.slot).image[c.next]? = some v →
          s.take.programmer.op = .word ⟨.commitWord, c.bank, c.start + c.next, v, v, 1⟩ ∧ s.take.store = s.store)
        ∧ (c.next = c.length → c.next ≠ 0 → s.take.programmer.op = .word ⟨.commitWord, c.bank, c.start, 0xFFFD,
            nvRead (s.arrays.bank c.bank) c.start &&& 0xFFFD, 1⟩ ∧ s.take.store = s.store))
    ∧ (∀ i p w t b, s.programmer.op = .idle → s.programmer.pulses = [] → s.programmer.marks = [] →
        s.programmer.commit = none → s.staging.head = some (i, p, w) →
        roomCheck s.settings.policy s.store s.arrays w.length = (t, .commit b) →
        (nvRead (s.arrays.bank b) 0 = 0xFFFF →
          s.take.store = t ∧ s.take.staging = s.staging ∧ s.take.programmer.commit = none
          ∧ ((t.bank b.other).state = .closed → s.take.programmer.op = .word ⟨.header, b, 0,
              sequenceSuccessor (nvRead (s.arrays.bank b.other) 0),
              sequenceSuccessor (nvRead (s.arrays.bank b.other) 0), 1⟩)
          ∧ ((t.bank b.other).state ≠ .closed → s.take.programmer.op = .word ⟨.header, b, 0, 1, 1, 1⟩))
        ∧ (nvRead (s.arrays.bank b) 0 ≠ 0xFFFF →
          s.take.programmer.op = .word ⟨.commitWord, b, t.appendPoint, 0xFFFE,
              nvRead (s.arrays.bank b) t.appendPoint &&& 0xFFFE, 1⟩
          ∧ s.take.programmer.commit = some ⟨i, b, t.appendPoint, w.length, 0⟩
          ∧ s.take.staging.slot i = .committing p w ∧ s.take.staging.handOver = s.staging.handOver.drop 1
          ∧ (s.take.store.bank b).records = (t.bank b).records ++ [⟨t.appendPoint, w.length⟩]))
    ∧ (∀ t, s.programmer.op = .idle → s.programmer.pulses = [] → s.programmer.marks = [] →
        s.programmer.commit = none →
        (s.staging.head = none ∧ t = s.store
          ∨ ∃ i p w r, s.staging.head = some (i, p, w) ∧ (∀ b, r ≠ Room.commit b)
              ∧ roomCheck s.settings.policy s.store s.arrays w.length = (t, r)) →
        (∀ b x xs, s.store.voidQueue = (b, x) :: xs →
          s.take.programmer.op = .word ⟨.voidMark, b, x.position, 0xFFF7,
            nvRead (s.arrays.bank b) x.position &&& 0xFFF7, 1⟩ ∧ s.take.store = { t with voidQueue := xs })
        ∧ (s.store.voidQueue = [] → t.bank0.erasePending = true →
          s.take = (s.setStore t).beginBankErase .bank0
            ∧ s.take.programmer.op = .bankErase .bank0 (nvRead s.arrays.bank0 0)
            ∧ s.take.store.bank0.state = .erasing ∧ s.take.store.bank1 = t.bank1)
        ∧ (s.store.voidQueue = [] → t.bank0.erasePending = false → t.bank1.erasePending = true →
          s.take = (s.setStore t).beginBankErase .bank1
            ∧ s.take.programmer.op = .bankErase .bank1 (nvRead s.arrays.bank1 0)
            ∧ s.take.store.bank1.state = .erasing ∧ s.take.store.bank0 = t.bank0)
        ∧ (s.store.voidQueue = [] → t.bank0.erasePending = false → t.bank1.erasePending = false →
          s.take.programmer.op = .idle ∧ s.take.store = t ∧ s.take.arrays = s.arrays
            ∧ s.take.staging = s.staging ∧ s.take.orders = s.orders))

/-- The room check, case by case: a, an OPEN bank with an erase pending or ERASING waits; b, an OPEN bank with room takes the
commit; c, one without room is CLOSED and the check goes on with no bank OPEN; d, a FRESH bank is opened, bank 0 first; e, a
bank that an erase will free waits; f and g, the reclaim candidate under either policy; h, two BAD banks wait (R124, R125,
R126). Under KEEP the candidate is judged by its records' state words: that a record whose commit ended VOID but whose state
word reads stray or FREE counts as neither READ nor VOID there is the model's choice (log entry 34). A bank with no records
qualifies. The candidate of two CLOSED banks is the older, by the sequence values of their headers (R116). -/
def Obligations.RoomCheckFollowsItsCases : Prop :=
  (∀ (m : Nv) (xs : List Extent), allReadOrVoid m xs = true
      ↔ ∀ x ∈ xs, recordState (nvRead m x.position) = .read ∨ recordState (nvRead m x.position) = .void)
  ∧ (∀ (t : Store) (m : Arrays), t.bank0.state = .closed → t.bank1.state = .closed →
      let header := fun b => nvRead (m.bank b) 0
      (∀ b, header b = sequenceSuccessor (header b.other) → newerBank t m = b)
      ∧ ((∀ b, header b ≠ sequenceSuccessor (header b.other)) →
        (∀ b, (header b.other).toNat < (header b).toNat → newerBank t m = b)
        ∧ (header .bank0 = header .bank1 → newerBank t m = .bank0)))
  ∧ ∀ (pol : StorePolicy) (t : Store) (m : Arrays) (n : Nat),
    let o := roomCheck pol t m n
    let opens := fun b : BankId => (t.bank b).state = .fresh ∧ (t.bank b).erasePending = false
    let waits := fun b : BankId => (t.bank b).state = .dirty ∨ (t.bank b).state = .erasing
      ∨ ((t.bank b).state = .closed ∨ (t.bank b).state = .fresh) ∧ (t.bank b).erasePending = true
    let reclaims := fun b : BankId =>
      (pol = .overwrite ∨ allReadOrVoid (m.bank b) (t.bank b).records = true →
        o.2 = .wait ∧ o.1 = { t.setBank b { t.bank b with erasePending := true } with full := false })
      ∧ (pol = .keep → allReadOrVoid (m.bank b) (t.bank b).records = false →
        o.2 = .full ∧ o.1 = { t with full := true })
    (o.1.full = true ↔ o.2 = .full)
    ∧ (∀ b, t.openBank = some b → (t.bank b).erasePending = true ∨ (t.bank b).state = .erasing →
        o.2 = .wait ∧ o.1 = { t with full := false })
    ∧ (∀ b, t.openBank = some b → (t.bank b).state = .opened → (t.bank b).erasePending = false →
        n ≤ Config.bankWords - t.appendPoint → o.2 = .commit b ∧ o.1 = { t with full := false })
    ∧ (∀ b, t.openBank = some b → (t.bank b).state = .opened → (t.bank b).erasePending = false →
        Config.bankWords - t.appendPoint < n →
        o = roomCheck pol { t.setBank b { t.bank b with state := .closed } with openBank := none } m n)
    ∧ (∀ b, t.openBank = some b → (t.bank b).state = .opened → (t.bank b).erasePending = false →
        Config.bankWords - t.appendPoint < n → (t.bank b.other).state = .fresh →
        (t.bank b.other).erasePending = false →
        o.2 = .commit b.other ∧ o.1.openBank = some b.other ∧ o.1.appendPoint = 1 ∧ (o.1.bank b).state = .closed)
    ∧ (∀ b, t.openBank = none → opens b → (b = .bank1 → ¬opens .bank0) →
        o.2 = .commit b ∧ o.1.openBank = some b ∧ o.1.appendPoint = 1 ∧ (o.1.bank b).state = .opened
          ∧ o.1.bank b.other = t.bank b.other)
    ∧ (∀ b, t.openBank = none → ¬opens .bank0 → ¬opens .bank1 → waits b →
        o.2 = .wait ∧ o.1 = { t with full := false })
    ∧ (t.openBank = none → t.bank0.state = .closed → t.bank1.state = .closed → t.bank0.erasePending = false →
        t.bank1.erasePending = false → reclaims (newerBank t m).other)
    ∧ (∀ b, t.openBank = none → (t.bank b).state = .closed → (t.bank b).erasePending = false →
        (t.bank b.other).state = .bad → reclaims b)
    ∧ (t.openBank = none → t.bank0.state = .bad → t.bank1.state = .bad → o.2 = .wait ∧ o.1 = { t with full := false })

/-- Setup pulses end. Program positions 1 to 3 change nothing; the fourth ANDs its word, and answers DONE with the value read,
or REFUSED 2 (R171). Erase positions 1 to 7 change nothing; the eighth sets every bit but those it failed to set, and
answers DONE 8 or REFUSED 2 (R173). An answer no longer owed is not loaded (R174). -/
def Obligations.SetupPulsesWriteTheBlock : Prop :=
  (∀ (i : Nat) (v : Word) (k : Nat) (owed : Bool) (missed : Word) (s : State), s.powered = true → s.arrays.wf = true →
      i < 31 → s.programmer.op = .pulse (.program i v k owed) →
      ∃ u : State, exec (.setupProgramPulseDone missed) s = .next u.take.refreshFault ∧ u.programmer.op = .idle
        ∧ u.store = s.store ∧ u.arrays.bank0 = s.arrays.bank0 ∧ u.arrays.bank1 = s.arrays.bank1
        ∧ u.settings = s.settings
        ∧ (k ≠ 4 → u.arrays = s.arrays ∧ u.orders = s.orders)
        ∧ (k = 4 → nvRead u.arrays.setup i = nvRead s.arrays.setup i &&& (v ||| missed)
            ∧ (∀ a, a ≠ i → nvRead u.arrays.setup a = nvRead s.arrays.setup a)
            ∧ (owed = true → u.setup.owed = .none
              ∧ u.orders.outbox = some (if nvRead u.arrays.setup i = nvRead s.arrays.setup i &&& v then
                  ⟨.done, nvRead u.arrays.setup i⟩ else ⟨.refused, 2⟩))
            ∧ (owed = false → u.orders = s.orders)))
  ∧ (∀ (k : Nat) (owed : Bool) (unset : WordMasks) (s : State), s.powered = true → s.arrays.wf = true →
      s.programmer.op = .pulse (.erase k owed) →
      ∃ u : State, exec (.setupErasePulseDone unset) s = .next u.take.refreshFault ∧ u.programmer.op = .idle
        ∧ u.store = s.store ∧ u.arrays.bank0 = s.arrays.bank0 ∧ u.arrays.bank1 = s.arrays.bank1
        ∧ u.settings = s.settings
        ∧ (k ≠ 8 → u.arrays = s.arrays ∧ u.orders = s.orders)
        ∧ (k = 8 → (∀ a, nvRead u.arrays.setup a = nvRead s.arrays.setup a ||| ~~~(maskAt unset a))
            ∧ (owed = true → u.setup.owed = .none
              ∧ u.orders.outbox = some (if u.arrays.setup = [] then ⟨.done, 8⟩ else ⟨.refused, 2⟩))
            ∧ (owed = false → u.orders = s.orders)))

/-! ### Rest and wake -/

/-- Entry into DORMANT at the round end at which the rest count comes to 32, and the wake at once when alert pending
is set (R42, R163, R178, R179, R183). Every trip count goes to 0, and the armed flags, the trip set and alert pending are as
the round end leaves them: emptied and clear after an INCIDENT round, else kept (R60, R61). A station that rests on watches
the line, and a line already low is timed from that moment (R23, R179); that the line is low when slot 37 sampled 0 is the
model's reading (log entry 22). That the row is that round's end is the model's choice (log entry 6). Rest comes due at the
32nd round end as MEMBER in a row whose STAY reads released (R178). -/
def Obligations.ThirtyTwoReleasedRoundsRest : Prop :=
  (∀ (o : Offers) (r : Round) (out : OfferOutcome) (s : State), s.EndsRound o r out →
    (s.restComesDue r = true ↔ s.membership.state = .member ∧ r.banner.stay = false ∧ s.rest.count = 31))
  ∧ ∀ (o : Offers) (r : Round) (out : OfferOutcome) (i : StartInputs) (s : State), s.EndsRound o r out →
    s.restComesDue r = true → s.restarts r = false →
    ∃ u : State, exec (.enterDormant r i) s = .next u.take.refreshFault
      ∧ u.membership = { s.membership with
          state := .dormant, syncLosses := 0, rollTimer := 0, roster := emptyRoster }
      ∧ u.line.align = .seeking ∧ u.line.round = none ∧ u.ring = [] ∧ u.rest.count = 0 ∧ u.lock = .locked
      ∧ u.orders.outbox = none ∧ u.orders.stream = none ∧ u.orders.awaited = none ∧ u.engine.due = false
      ∧ u.engine.state = .idle ∧ u.arrays = s.arrays
      ∧ (u.monitors.alertPending = false → u.rest.sense = some Timer.zero ∧ u.rest.waking = false
          ∧ u.rest.forced = s.settings.forcedWake.map (fun _ => Timer.zero) ∧ u.line.pattern = s.line.pattern
          ∧ u.line.detector = (if r.body.getMsbD 31 then .idle else .timing) ∧ u.line.lowTime = 0)
      ∧ (u.monitors.alertPending = true → u.rest.waking = true ∧ u.rest.sense = none ∧ u.line.pattern = some 0
          ∧ u.rest.forced = none ∧ u.line.detector = .idle)
      ∧ u.rest.longLows = 0 ∧ u.rest.window = none
      ∧ (r.kind ≠ .incident → u.monitors.alertPending = s.monitors.alertPending
          ∧ ∀ j : Fin 8, u.monitors.inputs[j] = { s.monitors.inputs[j] with count := 0 })
      ∧ (r.kind = .incident → u.monitors.alertPending = false
          ∧ ∀ j : Fin 8, u.monitors.inputs[j] = { s.monitors.inputs[j] with count := 0, tripped := false })

/-- While the station rests, the sense timer begins a conversion and restarts, and the forced-wake timer begins the wake
pattern (R22, R180, R181, R183). A sense conversion's sample goes to the sense input's monitor alone, and a trip begins the
wake pattern unless the station is waking already (R62, R183). -/
def Obligations.SensingWakesTheStation : Prop :=
  (∀ s : State, s.powered = true → s.resting = true →
      (s.rest.sense ≠ none → ∃ t, exec .senseTimerExpiry s = .next t ∧ t.rest.sense = some Timer.zero
        ∧ t.sequencer.converter = .sense ∧ t.membership = s.membership ∧ t.line = s.line ∧ t.monitors = s.monitors)
      ∧ (s.rest.forced ≠ none → ∃ t, exec .forcedWakeExpiry s = .next t ∧ t.rest.waking = true ∧ t.rest.sense = none
        ∧ t.rest.forced = none ∧ t.rest.longLows = 0 ∧ t.line.pattern = some 0 ∧ t.membership = s.membership))
  ∧ (∀ (x : Sample) (s : State), s.powered = true → s.sequencer.converter = .sense →
      ∃ t, exec (.senseConversionDone x) s = .next t
        ∧ t.monitors = (submitSample s.settings s.settings.senseInput x s.monitors).1
        ∧ t.sequencer.converter = .idle ∧ t.sequencer.latest = s.sequencer.latest ∧ t.membership = s.membership
        ∧ ((submitSample s.settings s.settings.senseInput x s.monitors).2 = true → s.resting = true →
            t.rest.waking = true ∧ t.line.pattern = some 0)
        ∧ ((submitSample s.settings s.settings.senseInput x s.monitors).2 = false ∨ s.resting = false →
            t.rest = s.rest ∧ t.line = s.line))

/-- The end of the wake pattern: SEEKING with a fresh search, waking clear, timers stopped, trip counts 0, the round count and
the trip set kept (R22, R184). Long lows while the station rests: one is counted and opens the pattern window, a second is
counted, and the one that completes the wake count wakes the station as LINE with no pattern (R23, R182, R184). -/
def Obligations.WakesEndInSeeking : Prop :=
  (∀ s : State, s.powered = true → s.membership.state = .dormant → s.line.pattern ≠ none →
      ∃ t, exec .wakePatternEnd s = .next t ∧ t.membership = { s.membership with state := .seeking }
        ∧ t.line.pattern = none ∧ t.line.align = .seeking ∧ t.line.silence = some Timer.zero
        ∧ t.line.detector = .idle ∧ t.line.count = s.line.count ∧ t.rest.waking = false ∧ t.rest.sense = none
        ∧ t.rest.forced = none ∧ t.sequencer.converter = .idle
        ∧ t.monitors.alertPending = s.monitors.alertPending
        ∧ (∀ i : Fin 8, t.monitors.inputs[i] = { s.monitors.inputs[i] with count := 0 }))
  ∧ (∀ s : State, s.powered = true → s.resting = true → s.line.detector = .timing → s.line.pattern = none →
      ∃ t, exec .longLow s = .next t
        ∧ (s.settings.wakeThree = false ∨ 2 ≤ s.rest.longLows →
            t.membership.state = .seeking ∧ t.line.align = .seeking ∧ t.line.detector = .idle
              ∧ t.line.pattern = none ∧ t.rest.sense = none ∧ t.rest.waking = false)
        ∧ (s.settings.wakeThree = true → s.rest.longLows = 0 → t.membership = s.membership
            ∧ t.rest = { s.rest with longLows := 1, window := some Timer.zero } ∧ t.line.detector = .reported)
        ∧ (s.settings.wakeThree = true → s.rest.longLows = 1 → t.membership = s.membership
            ∧ t.rest = { s.rest with longLows := 2 } ∧ t.line.detector = .reported))

/-- A rise of the line starts the silence timer of a low found in backoff, or readies the detector (R19, R23). While the
station rests, a fall begins the timing of a low, and the pattern window's end forgets the long lows counted (R23, R182). -/
def Obligations.RisesFallsAndTheWindow : Prop :=
  (∀ s : State, s.powered = true → ∃ t, exec .lineRise s = .next t
      ∧ (s.line.heldLow = true → t.line.silence = some Timer.zero ∧ t.line.heldLow = false)
      ∧ (s.line.heldLow = false → t.line.detector = .idle ∧ t.line.silence = s.line.silence)
      ∧ t.membership = s.membership ∧ t.rest = s.rest ∧ t.line.count = s.line.count)
  ∧ (∀ s : State, s.powered = true → s.resting = true →
      (s.line.detector = .idle → ∃ t, exec .longLowTimingStart s = .next t ∧ t.line.detector = .timing
        ∧ t.line.lowTime = 0 ∧ t.rest = s.rest ∧ t.membership = s.membership)
      ∧ (s.rest.window ≠ none → ∃ t, exec .patternWindowExpiry s = .next t ∧ t.rest.longLows = 0 ∧ t.rest.window = none
        ∧ t.line = s.line ∧ t.membership = s.membership))

/-! ### What every step keeps -/

/-- The state right after reset: the start values of the blocks' state tables, and every condition that the steps keep. The
Line Interface (R14, R16): SEEKING with no mark seen, its timers stopped, no offers, round count 0, the detector idle. The
Membership Controller (R24, R41). The converter and the survey at rest, latest values none, pointer 0 (R46, R50); the monitors
armed with nothing tripped (R57); the ring empty. The Incident Engine but NEXT and the primary number, ALERT released (R73,
R94). Both slots EMPTY and the hand-over order empty (R107); FULL clear, no VOID queued, the programmer IDLE with its lists
empty (R134). The Order Unit (R175), the lock (R157), the setup fault NONE and no answer owed, and the Rest Controller (R178).
FAULT is released (R43). The arrays are those of a new station by the model's choice (log entry 8). -/
def Obligations.ResetHoldsTheStartValues : Prop :=
  let s := State.reset
  s.wf = true ∧ s.pending = []
    ∧ s.line.align = .seeking ∧ s.line.search = ⟨false, none⟩ ∧ s.line.silence = none ∧ s.line.backoff = none
    ∧ s.line.round = none ∧ s.line.count = 0 ∧ s.line.detector = .idle ∧ s.line.pattern = none
    ∧ s.membership.state = .starting ∧ s.membership.cause = .none ∧ s.membership.syncLosses = 0
    ∧ s.membership.rollTimer = 0 ∧ (∀ k : Fin 31, s.membership.roster[k] = ⟨false, 0⟩)
    ∧ s.sequencer.converter = .idle ∧ s.sequencer.pass = none ∧ s.sequencer.repetition = none
    ∧ s.sequencer.pointer = 0 ∧ (∀ i : Input, s.sequencer.latest[i] = none) ∧ s.sequencer.baselines = []
    ∧ (∀ i : Fin 8, s.monitors.inputs[i] = ⟨0, true, false⟩) ∧ s.monitors.alertPending = false ∧ s.ring = []
    ∧ s.engine.state = .idle ∧ s.engine.exhausted = false ∧ s.engine.missed = 0 ∧ s.engine.firstMissed = 0
    ∧ s.engine.due = false ∧ s.engine.captured = 0 ∧ s.engine.remaining = 0 ∧ s.engine.merges = []
    ∧ s.engine.overflow = false ∧ s.engine.cut = false ∧ s.pins.alertLow = false ∧ s.pins.alertPulse = none
    ∧ s.staging.slot0 = .empty ∧ s.staging.slot1 = .empty ∧ s.staging.handOver = []
    ∧ s.store.full = false ∧ s.store.voidQueue = []
    ∧ s.programmer.op = .idle ∧ s.programmer.commit = none ∧ s.programmer.pulses = [] ∧ s.programmer.marks = []
    ∧ s.orders.outbox = none ∧ s.orders.awaited = none ∧ s.orders.stream = none ∧ s.orders.openTimer = 0
    ∧ s.orders.holding = 0xFFFF ∧ s.orders.pulseCount = 0 ∧ s.orders.pulseIndex = none
    ∧ s.lock = .locked ∧ s.setup.fault = .none ∧ s.setup.owed = .none
    ∧ s.rest.count = 0 ∧ s.rest.sense = none ∧ s.rest.forced = none ∧ s.rest.longLows = 0 ∧ s.rest.window = none
    ∧ s.rest.waking = false ∧ s.pins.faultLow = false

/-- Every step keeps the arrays in their canonical form: whatever the memory did, no word lies outside them. -/
def Obligations.EveryStepKeepsTheArraysCanonical : Prop :=
  ∀ s t : State, s.arrays.wf = true → step s = .next t → t.arrays.wf = true

/-- Every step keeps the FAULT pin at its conditions: low while powered exactly when the station is WITHDRAWN, a bank is
BAD or the setup fault stands (R43). That a bank that was BAD counts until its erase verifies is the model's reading (log
entry 30). -/
def Obligations.EveryStepKeepsTheFaultPin : Prop :=
  ∀ s t : State, s.faultPinFollows = true → step s = .next t → t.faultPinFollows = true

/-- Every step keeps the lock guarded: other than LOCKED only as MEMBER, and never under a key of all zeros (R159,
R163). -/
def Obligations.EveryStepKeepsTheLockGuarded : Prop :=
  ∀ s t : State, s.startedInOrder = true → s.lockGuarded = true → step s = .next t →
    t.startedInOrder = true ∧ t.lockGuarded = true

/-- Every step keeps the line with the membership: ALIGNED exactly as JOINING or MEMBER, SILENT only as SEEKING, offers only
while ALIGNED, a capture only as MEMBER (R13, R16, R21, R91). -/
def Obligations.EveryStepKeepsTheLineWithTheMembership : Prop :=
  ∀ s t : State, s.lineFollows = true → s.captureFollows = true → step s = .next t →
    t.lineFollows = true ∧ t.captureFollows = true

/-- Every step keeps a capture within 32 rounds with at least one to come, and these counters at or below their limits:
missed count, merge list, sync losses, rest count, long lows, roster misses, the singles of the mark search, the setup pulse
count, the roll timer at the roll period, the trip counts at the trip setting, the burst points at the density, and the open
timer at the open timeout (R17, R31, R37, R40, R51, R58, R84, R86, R88, R89, R156, R170, R172, R178, R182). -/
def Obligations.EveryStepKeepsTheCountersInRange : Prop :=
  ∀ s t : State, s.startedInOrder = true → s.lineFollows = true → s.captureFollows = true →
    s.engine.countsFit = true → s.countersFit = true → step s = .next t →
    t.engine.countsFit = true ∧ t.countersFit = true
end

