-- ==== Sys2Proof/Laws/State.lean ====
section
/-!
SUPPORT. What each update of a block leaves and sets: one lemma per field per update of State, true by rfl.
-/

namespace Sys2Proof.Machine

/-! ### setPowered -/

@[simp] theorem State.setPowered_powered (s : State) (v : Bool) : (s.setPowered v).powered = v := rfl
@[simp] theorem State.setPowered_pins (s : State) (v : Bool) : (s.setPowered v).pins = s.pins := rfl
@[simp] theorem State.setPowered_line (s : State) (v : Bool) : (s.setPowered v).line = s.line := rfl
@[simp] theorem State.setPowered_membership (s : State) (v : Bool) : (s.setPowered v).membership = s.membership := rfl
@[simp] theorem State.setPowered_sequencer (s : State) (v : Bool) : (s.setPowered v).sequencer = s.sequencer := rfl
@[simp] theorem State.setPowered_monitors (s : State) (v : Bool) : (s.setPowered v).monitors = s.monitors := rfl
@[simp] theorem State.setPowered_ring (s : State) (v : Bool) : (s.setPowered v).ring = s.ring := rfl
@[simp] theorem State.setPowered_engine (s : State) (v : Bool) : (s.setPowered v).engine = s.engine := rfl
@[simp] theorem State.setPowered_staging (s : State) (v : Bool) : (s.setPowered v).staging = s.staging := rfl
@[simp] theorem State.setPowered_store (s : State) (v : Bool) : (s.setPowered v).store = s.store := rfl
@[simp] theorem State.setPowered_arrays (s : State) (v : Bool) : (s.setPowered v).arrays = s.arrays := rfl
@[simp] theorem State.setPowered_programmer (s : State) (v : Bool) : (s.setPowered v).programmer = s.programmer := rfl
@[simp] theorem State.setPowered_orders (s : State) (v : Bool) : (s.setPowered v).orders = s.orders := rfl
@[simp] theorem State.setPowered_lock (s : State) (v : Bool) : (s.setPowered v).lock = s.lock := rfl
@[simp] theorem State.setPowered_setup (s : State) (v : Bool) : (s.setPowered v).setup = s.setup := rfl
@[simp] theorem State.setPowered_rest (s : State) (v : Bool) : (s.setPowered v).rest = s.rest := rfl
@[simp] theorem State.setPowered_pending (s : State) (v : Bool) : (s.setPowered v).pending = s.pending := rfl
@[simp] theorem State.setPowered_settings (s : State) (v : Bool) : (s.setPowered v).settings = s.settings := rfl
@[simp] theorem State.setPowered_onLine (s : State) (v : Bool) : (s.setPowered v).onLine = s.onLine := rfl
@[simp] theorem State.setPowered_self (s : State) : s.setPowered s.powered = s := rfl
@[simp] theorem State.setPowered_setPowered (s : State) (v w : Bool) : (s.setPowered v).setPowered w = s.setPowered w := rfl

/-! ### setPins -/

@[simp] theorem State.setPins_powered (s : State) (v : Pins) : (s.setPins v).powered = s.powered := rfl
@[simp] theorem State.setPins_pins (s : State) (v : Pins) : (s.setPins v).pins = v := rfl
@[simp] theorem State.setPins_line (s : State) (v : Pins) : (s.setPins v).line = s.line := rfl
@[simp] theorem State.setPins_membership (s : State) (v : Pins) : (s.setPins v).membership = s.membership := rfl
@[simp] theorem State.setPins_sequencer (s : State) (v : Pins) : (s.setPins v).sequencer = s.sequencer := rfl
@[simp] theorem State.setPins_monitors (s : State) (v : Pins) : (s.setPins v).monitors = s.monitors := rfl
@[simp] theorem State.setPins_ring (s : State) (v : Pins) : (s.setPins v).ring = s.ring := rfl
@[simp] theorem State.setPins_engine (s : State) (v : Pins) : (s.setPins v).engine = s.engine := rfl
@[simp] theorem State.setPins_staging (s : State) (v : Pins) : (s.setPins v).staging = s.staging := rfl
@[simp] theorem State.setPins_store (s : State) (v : Pins) : (s.setPins v).store = s.store := rfl
@[simp] theorem State.setPins_arrays (s : State) (v : Pins) : (s.setPins v).arrays = s.arrays := rfl
@[simp] theorem State.setPins_programmer (s : State) (v : Pins) : (s.setPins v).programmer = s.programmer := rfl
@[simp] theorem State.setPins_orders (s : State) (v : Pins) : (s.setPins v).orders = s.orders := rfl
@[simp] theorem State.setPins_lock (s : State) (v : Pins) : (s.setPins v).lock = s.lock := rfl
@[simp] theorem State.setPins_setup (s : State) (v : Pins) : (s.setPins v).setup = s.setup := rfl
@[simp] theorem State.setPins_rest (s : State) (v : Pins) : (s.setPins v).rest = s.rest := rfl
@[simp] theorem State.setPins_pending (s : State) (v : Pins) : (s.setPins v).pending = s.pending := rfl
@[simp] theorem State.setPins_settings (s : State) (v : Pins) : (s.setPins v).settings = s.settings := rfl
@[simp] theorem State.setPins_onLine (s : State) (v : Pins) : (s.setPins v).onLine = s.onLine := rfl
@[simp] theorem State.setPins_self (s : State) : s.setPins s.pins = s := rfl
@[simp] theorem State.setPins_setPins (s : State) (v w : Pins) : (s.setPins v).setPins w = s.setPins w := rfl

/-! ### setLine -/

@[simp] theorem State.setLine_powered (s : State) (v : Line) : (s.setLine v).powered = s.powered := rfl
@[simp] theorem State.setLine_pins (s : State) (v : Line) : (s.setLine v).pins = s.pins := rfl
@[simp] theorem State.setLine_line (s : State) (v : Line) : (s.setLine v).line = v := rfl
@[simp] theorem State.setLine_membership (s : State) (v : Line) : (s.setLine v).membership = s.membership := rfl
@[simp] theorem State.setLine_sequencer (s : State) (v : Line) : (s.setLine v).sequencer = s.sequencer := rfl
@[simp] theorem State.setLine_monitors (s : State) (v : Line) : (s.setLine v).monitors = s.monitors := rfl
@[simp] theorem State.setLine_ring (s : State) (v : Line) : (s.setLine v).ring = s.ring := rfl
@[simp] theorem State.setLine_engine (s : State) (v : Line) : (s.setLine v).engine = s.engine := rfl
@[simp] theorem State.setLine_staging (s : State) (v : Line) : (s.setLine v).staging = s.staging := rfl
@[simp] theorem State.setLine_store (s : State) (v : Line) : (s.setLine v).store = s.store := rfl
@[simp] theorem State.setLine_arrays (s : State) (v : Line) : (s.setLine v).arrays = s.arrays := rfl
@[simp] theorem State.setLine_programmer (s : State) (v : Line) : (s.setLine v).programmer = s.programmer := rfl
@[simp] theorem State.setLine_orders (s : State) (v : Line) : (s.setLine v).orders = s.orders := rfl
@[simp] theorem State.setLine_lock (s : State) (v : Line) : (s.setLine v).lock = s.lock := rfl
@[simp] theorem State.setLine_setup (s : State) (v : Line) : (s.setLine v).setup = s.setup := rfl
@[simp] theorem State.setLine_rest (s : State) (v : Line) : (s.setLine v).rest = s.rest := rfl
@[simp] theorem State.setLine_pending (s : State) (v : Line) : (s.setLine v).pending = s.pending := rfl
@[simp] theorem State.setLine_settings (s : State) (v : Line) : (s.setLine v).settings = s.settings := rfl
@[simp] theorem State.setLine_onLine (s : State) (v : Line) : (s.setLine v).onLine = s.onLine := rfl
@[simp] theorem State.setLine_self (s : State) : s.setLine s.line = s := rfl
@[simp] theorem State.setLine_setLine (s : State) (v w : Line) : (s.setLine v).setLine w = s.setLine w := rfl

/-! ### setMembership -/

@[simp] theorem State.setMembership_powered (s : State) (v : Membership) : (s.setMembership v).powered = s.powered := rfl
@[simp] theorem State.setMembership_pins (s : State) (v : Membership) : (s.setMembership v).pins = s.pins := rfl
@[simp] theorem State.setMembership_line (s : State) (v : Membership) : (s.setMembership v).line = s.line := rfl
@[simp] theorem State.setMembership_membership (s : State) (v : Membership) : (s.setMembership v).membership = v := rfl
@[simp] theorem State.setMembership_sequencer (s : State) (v : Membership) : (s.setMembership v).sequencer = s.sequencer := rfl
@[simp] theorem State.setMembership_monitors (s : State) (v : Membership) : (s.setMembership v).monitors = s.monitors := rfl
@[simp] theorem State.setMembership_ring (s : State) (v : Membership) : (s.setMembership v).ring = s.ring := rfl
@[simp] theorem State.setMembership_engine (s : State) (v : Membership) : (s.setMembership v).engine = s.engine := rfl
@[simp] theorem State.setMembership_staging (s : State) (v : Membership) : (s.setMembership v).staging = s.staging := rfl
@[simp] theorem State.setMembership_store (s : State) (v : Membership) : (s.setMembership v).store = s.store := rfl
@[simp] theorem State.setMembership_arrays (s : State) (v : Membership) : (s.setMembership v).arrays = s.arrays := rfl
@[simp] theorem State.setMembership_programmer (s : State) (v : Membership) : (s.setMembership v).programmer = s.programmer := rfl
@[simp] theorem State.setMembership_orders (s : State) (v : Membership) : (s.setMembership v).orders = s.orders := rfl
@[simp] theorem State.setMembership_lock (s : State) (v : Membership) : (s.setMembership v).lock = s.lock := rfl
@[simp] theorem State.setMembership_setup (s : State) (v : Membership) : (s.setMembership v).setup = s.setup := rfl
@[simp] theorem State.setMembership_rest (s : State) (v : Membership) : (s.setMembership v).rest = s.rest := rfl
@[simp] theorem State.setMembership_pending (s : State) (v : Membership) : (s.setMembership v).pending = s.pending := rfl
@[simp] theorem State.setMembership_settings (s : State) (v : Membership) : (s.setMembership v).settings = s.settings := rfl
@[simp] theorem State.setMembership_self (s : State) : s.setMembership s.membership = s := rfl
@[simp] theorem State.setMembership_setMembership (s : State) (v w : Membership) : (s.setMembership v).setMembership w = s.setMembership w := rfl

/-! ### setSequencer -/

@[simp] theorem State.setSequencer_powered (s : State) (v : Sequencer) : (s.setSequencer v).powered = s.powered := rfl
@[simp] theorem State.setSequencer_pins (s : State) (v : Sequencer) : (s.setSequencer v).pins = s.pins := rfl
@[simp] theorem State.setSequencer_line (s : State) (v : Sequencer) : (s.setSequencer v).line = s.line := rfl
@[simp] theorem State.setSequencer_membership (s : State) (v : Sequencer) : (s.setSequencer v).membership = s.membership := rfl
@[simp] theorem State.setSequencer_sequencer (s : State) (v : Sequencer) : (s.setSequencer v).sequencer = v := rfl
@[simp] theorem State.setSequencer_monitors (s : State) (v : Sequencer) : (s.setSequencer v).monitors = s.monitors := rfl
@[simp] theorem State.setSequencer_ring (s : State) (v : Sequencer) : (s.setSequencer v).ring = s.ring := rfl
@[simp] theorem State.setSequencer_engine (s : State) (v : Sequencer) : (s.setSequencer v).engine = s.engine := rfl
@[simp] theorem State.setSequencer_staging (s : State) (v : Sequencer) : (s.setSequencer v).staging = s.staging := rfl
@[simp] theorem State.setSequencer_store (s : State) (v : Sequencer) : (s.setSequencer v).store = s.store := rfl
@[simp] theorem State.setSequencer_arrays (s : State) (v : Sequencer) : (s.setSequencer v).arrays = s.arrays := rfl
@[simp] theorem State.setSequencer_programmer (s : State) (v : Sequencer) : (s.setSequencer v).programmer = s.programmer := rfl
@[simp] theorem State.setSequencer_orders (s : State) (v : Sequencer) : (s.setSequencer v).orders = s.orders := rfl
@[simp] theorem State.setSequencer_lock (s : State) (v : Sequencer) : (s.setSequencer v).lock = s.lock := rfl
@[simp] theorem State.setSequencer_setup (s : State) (v : Sequencer) : (s.setSequencer v).setup = s.setup := rfl
@[simp] theorem State.setSequencer_rest (s : State) (v : Sequencer) : (s.setSequencer v).rest = s.rest := rfl
@[simp] theorem State.setSequencer_pending (s : State) (v : Sequencer) : (s.setSequencer v).pending = s.pending := rfl
@[simp] theorem State.setSequencer_settings (s : State) (v : Sequencer) : (s.setSequencer v).settings = s.settings := rfl
@[simp] theorem State.setSequencer_onLine (s : State) (v : Sequencer) : (s.setSequencer v).onLine = s.onLine := rfl
@[simp] theorem State.setSequencer_self (s : State) : s.setSequencer s.sequencer = s := rfl
@[simp] theorem State.setSequencer_setSequencer (s : State) (v w : Sequencer) : (s.setSequencer v).setSequencer w = s.setSequencer w := rfl

/-! ### setMonitors -/

@[simp] theorem State.setMonitors_powered (s : State) (v : Monitors) : (s.setMonitors v).powered = s.powered := rfl
@[simp] theorem State.setMonitors_pins (s : State) (v : Monitors) : (s.setMonitors v).pins = s.pins := rfl
@[simp] theorem State.setMonitors_line (s : State) (v : Monitors) : (s.setMonitors v).line = s.line := rfl
@[simp] theorem State.setMonitors_membership (s : State) (v : Monitors) : (s.setMonitors v).membership = s.membership := rfl
@[simp] theorem State.setMonitors_sequencer (s : State) (v : Monitors) : (s.setMonitors v).sequencer = s.sequencer := rfl
@[simp] theorem State.setMonitors_monitors (s : State) (v : Monitors) : (s.setMonitors v).monitors = v := rfl
@[simp] theorem State.setMonitors_ring (s : State) (v : Monitors) : (s.setMonitors v).ring = s.ring := rfl
@[simp] theorem State.setMonitors_engine (s : State) (v : Monitors) : (s.setMonitors v).engine = s.engine := rfl
@[simp] theorem State.setMonitors_staging (s : State) (v : Monitors) : (s.setMonitors v).staging = s.staging := rfl
@[simp] theorem State.setMonitors_store (s : State) (v : Monitors) : (s.setMonitors v).store = s.store := rfl
@[simp] theorem State.setMonitors_arrays (s : State) (v : Monitors) : (s.setMonitors v).arrays = s.arrays := rfl
@[simp] theorem State.setMonitors_programmer (s : State) (v : Monitors) : (s.setMonitors v).programmer = s.programmer := rfl
@[simp] theorem State.setMonitors_orders (s : State) (v : Monitors) : (s.setMonitors v).orders = s.orders := rfl
@[simp] theorem State.setMonitors_lock (s : State) (v : Monitors) : (s.setMonitors v).lock = s.lock := rfl
@[simp] theorem State.setMonitors_setup (s : State) (v : Monitors) : (s.setMonitors v).setup = s.setup := rfl
@[simp] theorem State.setMonitors_rest (s : State) (v : Monitors) : (s.setMonitors v).rest = s.rest := rfl
@[simp] theorem State.setMonitors_pending (s : State) (v : Monitors) : (s.setMonitors v).pending = s.pending := rfl
@[simp] theorem State.setMonitors_settings (s : State) (v : Monitors) : (s.setMonitors v).settings = s.settings := rfl
@[simp] theorem State.setMonitors_onLine (s : State) (v : Monitors) : (s.setMonitors v).onLine = s.onLine := rfl
@[simp] theorem State.setMonitors_self (s : State) : s.setMonitors s.monitors = s := rfl
@[simp] theorem State.setMonitors_setMonitors (s : State) (v w : Monitors) : (s.setMonitors v).setMonitors w = s.setMonitors w := rfl

/-! ### setRing -/

@[simp] theorem State.setRing_powered (s : State) (v : List Pass) : (s.setRing v).powered = s.powered := rfl
@[simp] theorem State.setRing_pins (s : State) (v : List Pass) : (s.setRing v).pins = s.pins := rfl
@[simp] theorem State.setRing_line (s : State) (v : List Pass) : (s.setRing v).line = s.line := rfl
@[simp] theorem State.setRing_membership (s : State) (v : List Pass) : (s.setRing v).membership = s.membership := rfl
@[simp] theorem State.setRing_sequencer (s : State) (v : List Pass) : (s.setRing v).sequencer = s.sequencer := rfl
@[simp] theorem State.setRing_monitors (s : State) (v : List Pass) : (s.setRing v).monitors = s.monitors := rfl
@[simp] theorem State.setRing_ring (s : State) (v : List Pass) : (s.setRing v).ring = v := rfl
@[simp] theorem State.setRing_engine (s : State) (v : List Pass) : (s.setRing v).engine = s.engine := rfl
@[simp] theorem State.setRing_staging (s : State) (v : List Pass) : (s.setRing v).staging = s.staging := rfl
@[simp] theorem State.setRing_store (s : State) (v : List Pass) : (s.setRing v).store = s.store := rfl
@[simp] theorem State.setRing_arrays (s : State) (v : List Pass) : (s.setRing v).arrays = s.arrays := rfl
@[simp] theorem State.setRing_programmer (s : State) (v : List Pass) : (s.setRing v).programmer = s.programmer := rfl
@[simp] theorem State.setRing_orders (s : State) (v : List Pass) : (s.setRing v).orders = s.orders := rfl
@[simp] theorem State.setRing_lock (s : State) (v : List Pass) : (s.setRing v).lock = s.lock := rfl
@[simp] theorem State.setRing_setup (s : State) (v : List Pass) : (s.setRing v).setup = s.setup := rfl
@[simp] theorem State.setRing_rest (s : State) (v : List Pass) : (s.setRing v).rest = s.rest := rfl
@[simp] theorem State.setRing_pending (s : State) (v : List Pass) : (s.setRing v).pending = s.pending := rfl
@[simp] theorem State.setRing_settings (s : State) (v : List Pass) : (s.setRing v).settings = s.settings := rfl
@[simp] theorem State.setRing_onLine (s : State) (v : List Pass) : (s.setRing v).onLine = s.onLine := rfl
@[simp] theorem State.setRing_self (s : State) : s.setRing s.ring = s := rfl
@[simp] theorem State.setRing_setRing (s : State) (v w : List Pass) : (s.setRing v).setRing w = s.setRing w := rfl

/-! ### setEngine -/

@[simp] theorem State.setEngine_powered (s : State) (v : Engine) : (s.setEngine v).powered = s.powered := rfl
@[simp] theorem State.setEngine_pins (s : State) (v : Engine) : (s.setEngine v).pins = s.pins := rfl
@[simp] theorem State.setEngine_line (s : State) (v : Engine) : (s.setEngine v).line = s.line := rfl
@[simp] theorem State.setEngine_membership (s : State) (v : Engine) : (s.setEngine v).membership = s.membership := rfl
@[simp] theorem State.setEngine_sequencer (s : State) (v : Engine) : (s.setEngine v).sequencer = s.sequencer := rfl
@[simp] theorem State.setEngine_monitors (s : State) (v : Engine) : (s.setEngine v).monitors = s.monitors := rfl
@[simp] theorem State.setEngine_ring (s : State) (v : Engine) : (s.setEngine v).ring = s.ring := rfl
@[simp] theorem State.setEngine_engine (s : State) (v : Engine) : (s.setEngine v).engine = v := rfl
@[simp] theorem State.setEngine_staging (s : State) (v : Engine) : (s.setEngine v).staging = s.staging := rfl
@[simp] theorem State.setEngine_store (s : State) (v : Engine) : (s.setEngine v).store = s.store := rfl
@[simp] theorem State.setEngine_arrays (s : State) (v : Engine) : (s.setEngine v).arrays = s.arrays := rfl
@[simp] theorem State.setEngine_programmer (s : State) (v : Engine) : (s.setEngine v).programmer = s.programmer := rfl
@[simp] theorem State.setEngine_orders (s : State) (v : Engine) : (s.setEngine v).orders = s.orders := rfl
@[simp] theorem State.setEngine_lock (s : State) (v : Engine) : (s.setEngine v).lock = s.lock := rfl
@[simp] theorem State.setEngine_setup (s : State) (v : Engine) : (s.setEngine v).setup = s.setup := rfl
@[simp] theorem State.setEngine_rest (s : State) (v : Engine) : (s.setEngine v).rest = s.rest := rfl
@[simp] theorem State.setEngine_pending (s : State) (v : Engine) : (s.setEngine v).pending = s.pending := rfl
@[simp] theorem State.setEngine_settings (s : State) (v : Engine) : (s.setEngine v).settings = s.settings := rfl
@[simp] theorem State.setEngine_onLine (s : State) (v : Engine) : (s.setEngine v).onLine = s.onLine := rfl
@[simp] theorem State.setEngine_self (s : State) : s.setEngine s.engine = s := rfl
@[simp] theorem State.setEngine_setEngine (s : State) (v w : Engine) : (s.setEngine v).setEngine w = s.setEngine w := rfl

/-! ### setStaging -/

@[simp] theorem State.setStaging_powered (s : State) (v : Staging) : (s.setStaging v).powered = s.powered := rfl
@[simp] theorem State.setStaging_pins (s : State) (v : Staging) : (s.setStaging v).pins = s.pins := rfl
@[simp] theorem State.setStaging_line (s : State) (v : Staging) : (s.setStaging v).line = s.line := rfl
@[simp] theorem State.setStaging_membership (s : State) (v : Staging) : (s.setStaging v).membership = s.membership := rfl
@[simp] theorem State.setStaging_sequencer (s : State) (v : Staging) : (s.setStaging v).sequencer = s.sequencer := rfl
@[simp] theorem State.setStaging_monitors (s : State) (v : Staging) : (s.setStaging v).monitors = s.monitors := rfl
@[simp] theorem State.setStaging_ring (s : State) (v : Staging) : (s.setStaging v).ring = s.ring := rfl
@[simp] theorem State.setStaging_engine (s : State) (v : Staging) : (s.setStaging v).engine = s.engine := rfl
@[simp] theorem State.setStaging_staging (s : State) (v : Staging) : (s.setStaging v).staging = v := rfl
@[simp] theorem State.setStaging_store (s : State) (v : Staging) : (s.setStaging v).store = s.store := rfl
@[simp] theorem State.setStaging_arrays (s : State) (v : Staging) : (s.setStaging v).arrays = s.arrays := rfl
@[simp] theorem State.setStaging_programmer (s : State) (v : Staging) : (s.setStaging v).programmer = s.programmer := rfl
@[simp] theorem State.setStaging_orders (s : State) (v : Staging) : (s.setStaging v).orders = s.orders := rfl
@[simp] theorem State.setStaging_lock (s : State) (v : Staging) : (s.setStaging v).lock = s.lock := rfl
@[simp] theorem State.setStaging_setup (s : State) (v : Staging) : (s.setStaging v).setup = s.setup := rfl
@[simp] theorem State.setStaging_rest (s : State) (v : Staging) : (s.setStaging v).rest = s.rest := rfl
@[simp] theorem State.setStaging_pending (s : State) (v : Staging) : (s.setStaging v).pending = s.pending := rfl
@[simp] theorem State.setStaging_settings (s : State) (v : Staging) : (s.setStaging v).settings = s.settings := rfl
@[simp] theorem State.setStaging_onLine (s : State) (v : Staging) : (s.setStaging v).onLine = s.onLine := rfl
@[simp] theorem State.setStaging_self (s : State) : s.setStaging s.staging = s := rfl
@[simp] theorem State.setStaging_setStaging (s : State) (v w : Staging) : (s.setStaging v).setStaging w = s.setStaging w := rfl

/-! ### setStore -/

@[simp] theorem State.setStore_powered (s : State) (v : Store) : (s.setStore v).powered = s.powered := rfl
@[simp] theorem State.setStore_pins (s : State) (v : Store) : (s.setStore v).pins = s.pins := rfl
@[simp] theorem State.setStore_line (s : State) (v : Store) : (s.setStore v).line = s.line := rfl
@[simp] theorem State.setStore_membership (s : State) (v : Store) : (s.setStore v).membership = s.membership := rfl
@[simp] theorem State.setStore_sequencer (s : State) (v : Store) : (s.setStore v).sequencer = s.sequencer := rfl
@[simp] theorem State.setStore_monitors (s : State) (v : Store) : (s.setStore v).monitors = s.monitors := rfl
@[simp] theorem State.setStore_ring (s : State) (v : Store) : (s.setStore v).ring = s.ring := rfl
@[simp] theorem State.setStore_engine (s : State) (v : Store) : (s.setStore v).engine = s.engine := rfl
@[simp] theorem State.setStore_staging (s : State) (v : Store) : (s.setStore v).staging = s.staging := rfl
@[simp] theorem State.setStore_store (s : State) (v : Store) : (s.setStore v).store = v := rfl
@[simp] theorem State.setStore_arrays (s : State) (v : Store) : (s.setStore v).arrays = s.arrays := rfl
@[simp] theorem State.setStore_programmer (s : State) (v : Store) : (s.setStore v).programmer = s.programmer := rfl
@[simp] theorem State.setStore_orders (s : State) (v : Store) : (s.setStore v).orders = s.orders := rfl
@[simp] theorem State.setStore_lock (s : State) (v : Store) : (s.setStore v).lock = s.lock := rfl
@[simp] theorem State.setStore_setup (s : State) (v : Store) : (s.setStore v).setup = s.setup := rfl
@[simp] theorem State.setStore_rest (s : State) (v : Store) : (s.setStore v).rest = s.rest := rfl
@[simp] theorem State.setStore_pending (s : State) (v : Store) : (s.setStore v).pending = s.pending := rfl
@[simp] theorem State.setStore_settings (s : State) (v : Store) : (s.setStore v).settings = s.settings := rfl
@[simp] theorem State.setStore_onLine (s : State) (v : Store) : (s.setStore v).onLine = s.onLine := rfl
@[simp] theorem State.setStore_self (s : State) : s.setStore s.store = s := rfl
@[simp] theorem State.setStore_setStore (s : State) (v w : Store) : (s.setStore v).setStore w = s.setStore w := rfl

/-! ### setArrays -/

@[simp] theorem State.setArrays_powered (s : State) (v : Arrays) : (s.setArrays v).powered = s.powered := rfl
@[simp] theorem State.setArrays_pins (s : State) (v : Arrays) : (s.setArrays v).pins = s.pins := rfl
@[simp] theorem State.setArrays_line (s : State) (v : Arrays) : (s.setArrays v).line = s.line := rfl
@[simp] theorem State.setArrays_membership (s : State) (v : Arrays) : (s.setArrays v).membership = s.membership := rfl
@[simp] theorem State.setArrays_sequencer (s : State) (v : Arrays) : (s.setArrays v).sequencer = s.sequencer := rfl
@[simp] theorem State.setArrays_monitors (s : State) (v : Arrays) : (s.setArrays v).monitors = s.monitors := rfl
@[simp] theorem State.setArrays_ring (s : State) (v : Arrays) : (s.setArrays v).ring = s.ring := rfl
@[simp] theorem State.setArrays_engine (s : State) (v : Arrays) : (s.setArrays v).engine = s.engine := rfl
@[simp] theorem State.setArrays_staging (s : State) (v : Arrays) : (s.setArrays v).staging = s.staging := rfl
@[simp] theorem State.setArrays_store (s : State) (v : Arrays) : (s.setArrays v).store = s.store := rfl
@[simp] theorem State.setArrays_arrays (s : State) (v : Arrays) : (s.setArrays v).arrays = v := rfl
@[simp] theorem State.setArrays_programmer (s : State) (v : Arrays) : (s.setArrays v).programmer = s.programmer := rfl
@[simp] theorem State.setArrays_orders (s : State) (v : Arrays) : (s.setArrays v).orders = s.orders := rfl
@[simp] theorem State.setArrays_lock (s : State) (v : Arrays) : (s.setArrays v).lock = s.lock := rfl
@[simp] theorem State.setArrays_setup (s : State) (v : Arrays) : (s.setArrays v).setup = s.setup := rfl
@[simp] theorem State.setArrays_rest (s : State) (v : Arrays) : (s.setArrays v).rest = s.rest := rfl
@[simp] theorem State.setArrays_pending (s : State) (v : Arrays) : (s.setArrays v).pending = s.pending := rfl
@[simp] theorem State.setArrays_settings (s : State) (v : Arrays) : (s.setArrays v).settings = s.settings := rfl
@[simp] theorem State.setArrays_onLine (s : State) (v : Arrays) : (s.setArrays v).onLine = s.onLine := rfl
@[simp] theorem State.setArrays_self (s : State) : s.setArrays s.arrays = s := rfl
@[simp] theorem State.setArrays_setArrays (s : State) (v w : Arrays) : (s.setArrays v).setArrays w = s.setArrays w := rfl

/-! ### setProgrammer -/

@[simp] theorem State.setProgrammer_powered (s : State) (v : Programmer) : (s.setProgrammer v).powered = s.powered := rfl
@[simp] theorem State.setProgrammer_pins (s : State) (v : Programmer) : (s.setProgrammer v).pins = s.pins := rfl
@[simp] theorem State.setProgrammer_line (s : State) (v : Programmer) : (s.setProgrammer v).line = s.line := rfl
@[simp] theorem State.setProgrammer_membership (s : State) (v : Programmer) : (s.setProgrammer v).membership = s.membership := rfl
@[simp] theorem State.setProgrammer_sequencer (s : State) (v : Programmer) : (s.setProgrammer v).sequencer = s.sequencer := rfl
@[simp] theorem State.setProgrammer_monitors (s : State) (v : Programmer) : (s.setProgrammer v).monitors = s.monitors := rfl
@[simp] theorem State.setProgrammer_ring (s : State) (v : Programmer) : (s.setProgrammer v).ring = s.ring := rfl
@[simp] theorem State.setProgrammer_engine (s : State) (v : Programmer) : (s.setProgrammer v).engine = s.engine := rfl
@[simp] theorem State.setProgrammer_staging (s : State) (v : Programmer) : (s.setProgrammer v).staging = s.staging := rfl
@[simp] theorem State.setProgrammer_store (s : State) (v : Programmer) : (s.setProgrammer v).store = s.store := rfl
@[simp] theorem State.setProgrammer_arrays (s : State) (v : Programmer) : (s.setProgrammer v).arrays = s.arrays := rfl
@[simp] theorem State.setProgrammer_programmer (s : State) (v : Programmer) : (s.setProgrammer v).programmer = v := rfl
@[simp] theorem State.setProgrammer_orders (s : State) (v : Programmer) : (s.setProgrammer v).orders = s.orders := rfl
@[simp] theorem State.setProgrammer_lock (s : State) (v : Programmer) : (s.setProgrammer v).lock = s.lock := rfl
@[simp] theorem State.setProgrammer_setup (s : State) (v : Programmer) : (s.setProgrammer v).setup = s.setup := rfl
@[simp] theorem State.setProgrammer_rest (s : State) (v : Programmer) : (s.setProgrammer v).rest = s.rest := rfl
@[simp] theorem State.setProgrammer_pending (s : State) (v : Programmer) : (s.setProgrammer v).pending = s.pending := rfl
@[simp] theorem State.setProgrammer_settings (s : State) (v : Programmer) : (s.setProgrammer v).settings = s.settings := rfl
@[simp] theorem State.setProgrammer_onLine (s : State) (v : Programmer) : (s.setProgrammer v).onLine = s.onLine := rfl
@[simp] theorem State.setProgrammer_self (s : State) : s.setProgrammer s.programmer = s := rfl
@[simp] theorem State.setProgrammer_setProgrammer (s : State) (v w : Programmer) : (s.setProgrammer v).setProgrammer w = s.setProgrammer w := rfl

/-! ### setOrders -/

@[simp] theorem State.setOrders_powered (s : State) (v : Orders) : (s.setOrders v).powered = s.powered := rfl
@[simp] theorem State.setOrders_pins (s : State) (v : Orders) : (s.setOrders v).pins = s.pins := rfl
@[simp] theorem State.setOrders_line (s : State) (v : Orders) : (s.setOrders v).line = s.line := rfl
@[simp] theorem State.setOrders_membership (s : State) (v : Orders) : (s.setOrders v).membership = s.membership := rfl
@[simp] theorem State.setOrders_sequencer (s : State) (v : Orders) : (s.setOrders v).sequencer = s.sequencer := rfl
@[simp] theorem State.setOrders_monitors (s : State) (v : Orders) : (s.setOrders v).monitors = s.monitors := rfl
@[simp] theorem State.setOrders_ring (s : State) (v : Orders) : (s.setOrders v).ring = s.ring := rfl
@[simp] theorem State.setOrders_engine (s : State) (v : Orders) : (s.setOrders v).engine = s.engine := rfl
@[simp] theorem State.setOrders_staging (s : State) (v : Orders) : (s.setOrders v).staging = s.staging := rfl
@[simp] theorem State.setOrders_store (s : State) (v : Orders) : (s.setOrders v).store = s.store := rfl
@[simp] theorem State.setOrders_arrays (s : State) (v : Orders) : (s.setOrders v).arrays = s.arrays := rfl
@[simp] theorem State.setOrders_programmer (s : State) (v : Orders) : (s.setOrders v).programmer = s.programmer := rfl
@[simp] theorem State.setOrders_orders (s : State) (v : Orders) : (s.setOrders v).orders = v := rfl
@[simp] theorem State.setOrders_lock (s : State) (v : Orders) : (s.setOrders v).lock = s.lock := rfl
@[simp] theorem State.setOrders_setup (s : State) (v : Orders) : (s.setOrders v).setup = s.setup := rfl
@[simp] theorem State.setOrders_rest (s : State) (v : Orders) : (s.setOrders v).rest = s.rest := rfl
@[simp] theorem State.setOrders_pending (s : State) (v : Orders) : (s.setOrders v).pending = s.pending := rfl
@[simp] theorem State.setOrders_settings (s : State) (v : Orders) : (s.setOrders v).settings = s.settings := rfl
@[simp] theorem State.setOrders_onLine (s : State) (v : Orders) : (s.setOrders v).onLine = s.onLine := rfl
@[simp] theorem State.setOrders_self (s : State) : s.setOrders s.orders = s := rfl
@[simp] theorem State.setOrders_setOrders (s : State) (v w : Orders) : (s.setOrders v).setOrders w = s.setOrders w := rfl

/-! ### setLock -/

@[simp] theorem State.setLock_powered (s : State) (v : Lock) : (s.setLock v).powered = s.powered := rfl
@[simp] theorem State.setLock_pins (s : State) (v : Lock) : (s.setLock v).pins = s.pins := rfl
@[simp] theorem State.setLock_line (s : State) (v : Lock) : (s.setLock v).line = s.line := rfl
@[simp] theorem State.setLock_membership (s : State) (v : Lock) : (s.setLock v).membership = s.membership := rfl
@[simp] theorem State.setLock_sequencer (s : State) (v : Lock) : (s.setLock v).sequencer = s.sequencer := rfl
@[simp] theorem State.setLock_monitors (s : State) (v : Lock) : (s.setLock v).monitors = s.monitors := rfl
@[simp] theorem State.setLock_ring (s : State) (v : Lock) : (s.setLock v).ring = s.ring := rfl
@[simp] theorem State.setLock_engine (s : State) (v : Lock) : (s.setLock v).engine = s.engine := rfl
@[simp] theorem State.setLock_staging (s : State) (v : Lock) : (s.setLock v).staging = s.staging := rfl
@[simp] theorem State.setLock_store (s : State) (v : Lock) : (s.setLock v).store = s.store := rfl
@[simp] theorem State.setLock_arrays (s : State) (v : Lock) : (s.setLock v).arrays = s.arrays := rfl
@[simp] theorem State.setLock_programmer (s : State) (v : Lock) : (s.setLock v).programmer = s.programmer := rfl
@[simp] theorem State.setLock_orders (s : State) (v : Lock) : (s.setLock v).orders = s.orders := rfl
@[simp] theorem State.setLock_lock (s : State) (v : Lock) : (s.setLock v).lock = v := rfl
@[simp] theorem State.setLock_setup (s : State) (v : Lock) : (s.setLock v).setup = s.setup := rfl
@[simp] theorem State.setLock_rest (s : State) (v : Lock) : (s.setLock v).rest = s.rest := rfl
@[simp] theorem State.setLock_pending (s : State) (v : Lock) : (s.setLock v).pending = s.pending := rfl
@[simp] theorem State.setLock_settings (s : State) (v : Lock) : (s.setLock v).settings = s.settings := rfl
@[simp] theorem State.setLock_onLine (s : State) (v : Lock) : (s.setLock v).onLine = s.onLine := rfl
@[simp] theorem State.setLock_self (s : State) : s.setLock s.lock = s := rfl
@[simp] theorem State.setLock_setLock (s : State) (v w : Lock) : (s.setLock v).setLock w = s.setLock w := rfl

/-! ### setSetup -/

@[simp] theorem State.setSetup_powered (s : State) (v : Setup) : (s.setSetup v).powered = s.powered := rfl
@[simp] theorem State.setSetup_pins (s : State) (v : Setup) : (s.setSetup v).pins = s.pins := rfl
@[simp] theorem State.setSetup_line (s : State) (v : Setup) : (s.setSetup v).line = s.line := rfl
@[simp] theorem State.setSetup_membership (s : State) (v : Setup) : (s.setSetup v).membership = s.membership := rfl
@[simp] theorem State.setSetup_sequencer (s : State) (v : Setup) : (s.setSetup v).sequencer = s.sequencer := rfl
@[simp] theorem State.setSetup_monitors (s : State) (v : Setup) : (s.setSetup v).monitors = s.monitors := rfl
@[simp] theorem State.setSetup_ring (s : State) (v : Setup) : (s.setSetup v).ring = s.ring := rfl
@[simp] theorem State.setSetup_engine (s : State) (v : Setup) : (s.setSetup v).engine = s.engine := rfl
@[simp] theorem State.setSetup_staging (s : State) (v : Setup) : (s.setSetup v).staging = s.staging := rfl
@[simp] theorem State.setSetup_store (s : State) (v : Setup) : (s.setSetup v).store = s.store := rfl
@[simp] theorem State.setSetup_arrays (s : State) (v : Setup) : (s.setSetup v).arrays = s.arrays := rfl
@[simp] theorem State.setSetup_programmer (s : State) (v : Setup) : (s.setSetup v).programmer = s.programmer := rfl
@[simp] theorem State.setSetup_orders (s : State) (v : Setup) : (s.setSetup v).orders = s.orders := rfl
@[simp] theorem State.setSetup_lock (s : State) (v : Setup) : (s.setSetup v).lock = s.lock := rfl
@[simp] theorem State.setSetup_setup (s : State) (v : Setup) : (s.setSetup v).setup = v := rfl
@[simp] theorem State.setSetup_rest (s : State) (v : Setup) : (s.setSetup v).rest = s.rest := rfl
@[simp] theorem State.setSetup_pending (s : State) (v : Setup) : (s.setSetup v).pending = s.pending := rfl
@[simp] theorem State.setSetup_settings (s : State) (v : Setup) : (s.setSetup v).settings = v.working := rfl
@[simp] theorem State.setSetup_onLine (s : State) (v : Setup) : (s.setSetup v).onLine = s.onLine := rfl
@[simp] theorem State.setSetup_self (s : State) : s.setSetup s.setup = s := rfl
@[simp] theorem State.setSetup_setSetup (s : State) (v w : Setup) : (s.setSetup v).setSetup w = s.setSetup w := rfl

/-! ### setRest -/

@[simp] theorem State.setRest_powered (s : State) (v : Rest) : (s.setRest v).powered = s.powered := rfl
@[simp] theorem State.setRest_pins (s : State) (v : Rest) : (s.setRest v).pins = s.pins := rfl
@[simp] theorem State.setRest_line (s : State) (v : Rest) : (s.setRest v).line = s.line := rfl
@[simp] theorem State.setRest_membership (s : State) (v : Rest) : (s.setRest v).membership = s.membership := rfl
@[simp] theorem State.setRest_sequencer (s : State) (v : Rest) : (s.setRest v).sequencer = s.sequencer := rfl
@[simp] theorem State.setRest_monitors (s : State) (v : Rest) : (s.setRest v).monitors = s.monitors := rfl
@[simp] theorem State.setRest_ring (s : State) (v : Rest) : (s.setRest v).ring = s.ring := rfl
@[simp] theorem State.setRest_engine (s : State) (v : Rest) : (s.setRest v).engine = s.engine := rfl
@[simp] theorem State.setRest_staging (s : State) (v : Rest) : (s.setRest v).staging = s.staging := rfl
@[simp] theorem State.setRest_store (s : State) (v : Rest) : (s.setRest v).store = s.store := rfl
@[simp] theorem State.setRest_arrays (s : State) (v : Rest) : (s.setRest v).arrays = s.arrays := rfl
@[simp] theorem State.setRest_programmer (s : State) (v : Rest) : (s.setRest v).programmer = s.programmer := rfl
@[simp] theorem State.setRest_orders (s : State) (v : Rest) : (s.setRest v).orders = s.orders := rfl
@[simp] theorem State.setRest_lock (s : State) (v : Rest) : (s.setRest v).lock = s.lock := rfl
@[simp] theorem State.setRest_setup (s : State) (v : Rest) : (s.setRest v).setup = s.setup := rfl
@[simp] theorem State.setRest_rest (s : State) (v : Rest) : (s.setRest v).rest = v := rfl
@[simp] theorem State.setRest_pending (s : State) (v : Rest) : (s.setRest v).pending = s.pending := rfl
@[simp] theorem State.setRest_settings (s : State) (v : Rest) : (s.setRest v).settings = s.settings := rfl
@[simp] theorem State.setRest_onLine (s : State) (v : Rest) : (s.setRest v).onLine = s.onLine := rfl
@[simp] theorem State.setRest_self (s : State) : s.setRest s.rest = s := rfl
@[simp] theorem State.setRest_setRest (s : State) (v w : Rest) : (s.setRest v).setRest w = s.setRest w := rfl

/-! ### setPending -/

@[simp] theorem State.setPending_powered (s : State) (v : List Instr) : (s.setPending v).powered = s.powered := rfl
@[simp] theorem State.setPending_pins (s : State) (v : List Instr) : (s.setPending v).pins = s.pins := rfl
@[simp] theorem State.setPending_line (s : State) (v : List Instr) : (s.setPending v).line = s.line := rfl
@[simp] theorem State.setPending_membership (s : State) (v : List Instr) : (s.setPending v).membership = s.membership := rfl
@[simp] theorem State.setPending_sequencer (s : State) (v : List Instr) : (s.setPending v).sequencer = s.sequencer := rfl
@[simp] theorem State.setPending_monitors (s : State) (v : List Instr) : (s.setPending v).monitors = s.monitors := rfl
@[simp] theorem State.setPending_ring (s : State) (v : List Instr) : (s.setPending v).ring = s.ring := rfl
@[simp] theorem State.setPending_engine (s : State) (v : List Instr) : (s.setPending v).engine = s.engine := rfl
@[simp] theorem State.setPending_staging (s : State) (v : List Instr) : (s.setPending v).staging = s.staging := rfl
@[simp] theorem State.setPending_store (s : State) (v : List Instr) : (s.setPending v).store = s.store := rfl
@[simp] theorem State.setPending_arrays (s : State) (v : List Instr) : (s.setPending v).arrays = s.arrays := rfl
@[simp] theorem State.setPending_programmer (s : State) (v : List Instr) : (s.setPending v).programmer = s.programmer := rfl
@[simp] theorem State.setPending_orders (s : State) (v : List Instr) : (s.setPending v).orders = s.orders := rfl
@[simp] theorem State.setPending_lock (s : State) (v : List Instr) : (s.setPending v).lock = s.lock := rfl
@[simp] theorem State.setPending_setup (s : State) (v : List Instr) : (s.setPending v).setup = s.setup := rfl
@[simp] theorem State.setPending_rest (s : State) (v : List Instr) : (s.setPending v).rest = s.rest := rfl
@[simp] theorem State.setPending_pending (s : State) (v : List Instr) : (s.setPending v).pending = v := rfl
@[simp] theorem State.setPending_settings (s : State) (v : List Instr) : (s.setPending v).settings = s.settings := rfl
@[simp] theorem State.setPending_onLine (s : State) (v : List Instr) : (s.setPending v).onLine = s.onLine := rfl
@[simp] theorem State.setPending_self (s : State) : s.setPending s.pending = s := rfl
@[simp] theorem State.setPending_setPending (s : State) (v w : List Instr) : (s.setPending v).setPending w = s.setPending w := rfl

/-! ### Banks and slots -/

@[simp] theorem Arrays.bank_setBank_self (m : Arrays) (b : BankId) (v : Nv) : (m.setBank b v).bank b = v := by
  cases b <;> rfl

@[simp] theorem Arrays.bank_setBank_other (m : Arrays) (b : BankId) (v : Nv) :
    (m.setBank b v).bank b.other = m.bank b.other := by
  cases b <;> rfl

@[simp] theorem Arrays.setBank_setup (m : Arrays) (b : BankId) (v : Nv) : (m.setBank b v).setup = m.setup := by
  cases b <;> rfl

theorem Arrays.bank_setBank (m : Arrays) (b c : BankId) (v : Nv) :
    (m.setBank b v).bank c = if c = b then v else m.bank c := by
  cases b <;> cases c <;> rfl

@[simp] theorem Store.bank_setBank_self (t : Store) (b : BankId) (v : Bank) : (t.setBank b v).bank b = v := by
  cases b <;> rfl

@[simp] theorem Store.bank_setBank_other (t : Store) (b : BankId) (v : Bank) :
    (t.setBank b v).bank b.other = t.bank b.other := by
  cases b <;> rfl

theorem Store.bank_setBank (t : Store) (b c : BankId) (v : Bank) :
    (t.setBank b v).bank c = if c = b then v else t.bank c := by
  cases b <;> cases c <;> rfl

@[simp] theorem BankId.other_other (b : BankId) : b.other.other = b := by cases b <;> rfl

theorem BankId.other_ne (b : BankId) : b.other ≠ b := by cases b <;> decide

@[simp] theorem Staging.slot_setSlot_self (q : Staging) (i : SlotId) (v : Slot) : (q.setSlot i v).slot i = v := by
  cases i <;> rfl

@[simp] theorem Staging.setSlot_handOver (q : Staging) (i : SlotId) (v : Slot) :
    (q.setSlot i v).handOver = q.handOver := by
  cases i <;> rfl

theorem Staging.slot_setSlot (q : Staging) (i j : SlotId) (v : Slot) :
    (q.setSlot i v).slot j = if j = i then v else q.slot j := by
  cases i <;> cases j <;> rfl

@[simp] theorem Store.setBank_openBank (t : Store) (b : BankId) (v : Bank) : (t.setBank b v).openBank = t.openBank := by
  cases b <;> rfl

@[simp] theorem Store.setBank_appendPoint (t : Store) (b : BankId) (v : Bank) : (t.setBank b v).appendPoint = t.appendPoint := by
  cases b <;> rfl

@[simp] theorem Store.setBank_full (t : Store) (b : BankId) (v : Bank) : (t.setBank b v).full = t.full := by
  cases b <;> rfl

@[simp] theorem Store.setBank_unread (t : Store) (b : BankId) (v : Bank) : (t.setBank b v).unread = t.unread := by
  cases b <;> rfl

@[simp] theorem Store.setBank_voidQueue (t : Store) (b : BankId) (v : Bank) : (t.setBank b v).voidQueue = t.voidQueue := by
  cases b <;> rfl

@[simp] theorem Store.setBank_scanned (t : Store) (b : BankId) (v : Bank) : (t.setBank b v).scanned = t.scanned := by
  cases b <;> rfl

@[simp] theorem Store.setBank_stillBad (t : Store) (b : BankId) (v : Bank) : (t.setBank b v).stillBad = t.stillBad := by
  cases b <;> rfl

@[simp] theorem Store.setBank_scan (t : Store) (b : BankId) (v : Bank) : (t.setBank b v).scan = t.scan := by
  cases b <;> rfl


/-! ### The form of a command -/

@[simp] theorem State.refreshFault_powered (s : State) : s.refreshFault.powered = s.powered := rfl
@[simp] theorem State.refreshFault_line (s : State) : s.refreshFault.line = s.line := rfl
@[simp] theorem State.refreshFault_membership (s : State) : s.refreshFault.membership = s.membership := rfl
@[simp] theorem State.refreshFault_sequencer (s : State) : s.refreshFault.sequencer = s.sequencer := rfl
@[simp] theorem State.refreshFault_monitors (s : State) : s.refreshFault.monitors = s.monitors := rfl
@[simp] theorem State.refreshFault_ring (s : State) : s.refreshFault.ring = s.ring := rfl
@[simp] theorem State.refreshFault_engine (s : State) : s.refreshFault.engine = s.engine := rfl
@[simp] theorem State.refreshFault_staging (s : State) : s.refreshFault.staging = s.staging := rfl
@[simp] theorem State.refreshFault_store (s : State) : s.refreshFault.store = s.store := rfl
@[simp] theorem State.refreshFault_arrays (s : State) : s.refreshFault.arrays = s.arrays := rfl
@[simp] theorem State.refreshFault_programmer (s : State) : s.refreshFault.programmer = s.programmer := rfl
@[simp] theorem State.refreshFault_orders (s : State) : s.refreshFault.orders = s.orders := rfl
@[simp] theorem State.refreshFault_lock (s : State) : s.refreshFault.lock = s.lock := rfl
@[simp] theorem State.refreshFault_setup (s : State) : s.refreshFault.setup = s.setup := rfl
@[simp] theorem State.refreshFault_rest (s : State) : s.refreshFault.rest = s.rest := rfl
@[simp] theorem State.refreshFault_pending (s : State) : s.refreshFault.pending = s.pending := rfl
@[simp] theorem State.refreshFault_settings (s : State) : s.refreshFault.settings = s.settings := rfl
@[simp] theorem State.refreshFault_onLine (s : State) : s.refreshFault.onLine = s.onLine := rfl
@[simp] theorem State.refreshFault_straps (s : State) : s.refreshFault.pins.straps = s.pins.straps := rfl
@[simp] theorem State.refreshFault_alertLow (s : State) : s.refreshFault.pins.alertLow = s.pins.alertLow := rfl
@[simp] theorem State.refreshFault_alertPulse (s : State) : s.refreshFault.pins.alertPulse = s.pins.alertPulse := rfl
@[simp] theorem State.refreshFault_faultLow (s : State) : s.refreshFault.pins.faultLow = s.faultCondition := rfl

/-- A command on a powered station. -/
theorem act_powered {s : State} (h : s.powered = true) (f : State → State) : act s f = .next (f s).refreshFault := by
  simp [act, h]

/-- A command on a station without power. -/
theorem act_unpowered {s : State} (h : s.powered = false) (f : State → State) : act s f = .next s := by
  simp [act, h]

end Sys2Proof.Machine
end

