-- ==== Sys2Proof/Laws/Commands.lean ====
section
/-!
SUPPORT. What each command comes to on a station that has power, one lemma a command.
-/

namespace Sys2Proof.Machine

theorem exec_setupValidation {s : State} (hp : s.powered = true) :
    exec .setupValidation s = .next s.setupValidation.refreshFault :=
  act_powered hp fun s => s.setupValidation

theorem exec_startupScan {s : State} (hp : s.powered = true) :
    exec .startupScan s = .next s.startupScan.refreshFault :=
  act_powered hp fun s => s.startupScan

theorem exec_alignByMarks {s : State} (hp : s.powered = true) :
    exec .alignByMarks s = .next s.alignByMarks.refreshFault :=
  act_powered hp fun s => s.alignByMarks

theorem exec_markSearchEdge (interval : Nat) {s : State} (hp : s.powered = true) :
    exec (.markSearchEdge interval) s = .next (s.markSearchEdge interval).refreshFault :=
  act_powered hp fun s => s.markSearchEdge interval

theorem exec_silenceTimerExpiry (lineHigh : Bool) (draw : BitVec 6) {s : State} (hp : s.powered = true) :
    exec (.silenceTimerExpiry lineHigh draw) s = .next (s.silenceTimerExpiry lineHigh draw).refreshFault :=
  act_powered hp fun s => s.silenceTimerExpiry lineHigh draw

theorem exec_edgeDuringBackoff (fell : Bool) {s : State} (hp : s.powered = true) :
    exec (.edgeDuringBackoff fell) s = .next (s.edgeDuringBackoff fell).refreshFault :=
  act_powered hp fun s => s.edgeDuringBackoff fell

theorem exec_openLine {s : State} (hp : s.powered = true) : exec .openLine s = .next s.openLine.refreshFault :=
  act_powered hp fun s => s.openLine

theorem exec_foreignPulse (edge : LineEdge) {s : State} (hp : s.powered = true) :
    exec (.foreignPulse edge) s = .next (s.lineEdge edge).refreshFault :=
  act_powered hp fun s => s.lineEdge edge

theorem exec_driverFault {s : State} (hp : s.powered = true) :
    exec .driverFault s = .next s.driverFaultFound.refreshFault :=
  act_powered hp fun s => s.driverFaultFound

theorem exec_lineRise {s : State} (hp : s.powered = true) : exec .lineRise s = .next s.lineRise.refreshFault :=
  act_powered hp fun s => s.lineRise

theorem exec_markSlot (code : BitVec 16) {s : State} (hp : s.powered = true) :
    exec (.markSlot code) s = .next (s.markSlot code).refreshFault :=
  act_powered hp fun s => s.markSlot code

theorem exec_burstPoint (d : Fin 4) {s : State} (hp : s.powered = true) :
    exec (.burstPoint d) s = .next (s.burstPoint d.val).refreshFault :=
  act_powered hp fun s => s.burstPoint d.val

theorem exec_surveyConversionDone (x : Sample) {s : State} (hp : s.powered = true) :
    exec (.surveyConversionDone x) s = .next (s.surveyConversionDone x).refreshFault :=
  act_powered hp fun s => s.surveyConversionDone x

theorem exec_burstConversionDone (x : Sample) {s : State} (hp : s.powered = true) :
    exec (.burstConversionDone x) s = .next (s.burstConversionDone x).refreshFault :=
  act_powered hp fun s => s.burstConversionDone x

theorem exec_quietRound (banner : Banner) (unassigned : Bool) (body : Body) {s : State} (hp : s.powered = true) :
    exec (.quietRound banner unassigned body) s
      = .next (s.roundOfKind (if unassigned then .unassigned else .quiet) banner body).refreshFault :=
  act_powered hp fun s => s.roundOfKind (if unassigned then .unassigned else .quiet) banner body

theorem exec_incidentRound (banner : Banner) (body : Body) {s : State} (hp : s.powered = true) :
    exec (.incidentRound banner body) s = .next (s.roundOfKind .incident banner body).refreshFault :=
  act_powered hp fun s => s.roundOfKind .incident banner body

theorem exec_probeRound (banner : Banner) (body : Body) {s : State} (hp : s.powered = true) :
    exec (.probeRound banner body) s = .next (s.roundOfKind .probe banner body).refreshFault :=
  act_powered hp fun s => s.roundOfKind .probe banner body

theorem exec_rollRound (banner : Banner) (body : Body) {s : State} (hp : s.powered = true) :
    exec (.rollRound banner body) s = .next (s.roundOfKind .roll banner body).refreshFault :=
  act_powered hp fun s => s.roundOfKind .roll banner body

theorem exec_epochRound (banner : Banner) (body : Body) {s : State} (hp : s.powered = true) :
    exec (.epochRound banner body) s = .next (s.roundOfKind .epoch banner body).refreshFault :=
  act_powered hp fun s => s.roundOfKind .epoch banner body

theorem exec_replyRound (banner : Banner) (body : Body) {s : State} (hp : s.powered = true) :
    exec (.replyRound banner body) s = .next (s.roundOfKind .reply banner body).refreshFault :=
  act_powered hp fun s => s.roundOfKind .reply banner body

theorem exec_orderRound (banner : Banner) (body : Body) (i : StartInputs) {s : State} (hp : s.powered = true) :
    exec (.orderRound banner body i) s = .next (s.roundEnd ⟨.order, banner, body⟩ i).refreshFault :=
  act_powered hp fun s => s.roundEnd ⟨.order, banner, body⟩ i

theorem exec_rollTimerDue (r : Round) (i : StartInputs) {s : State} (hp : s.powered = true) :
    exec (.rollTimerDue r i) s = .next (s.roundEndIf (s.rollComesDue r) r i).refreshFault :=
  act_powered hp fun s => s.roundEndIf (s.rollComesDue r) r i

theorem exec_openTimerExpiry (r : Round) (i : StartInputs) {s : State} (hp : s.powered = true) :
    exec (.openTimerExpiry r i) s = .next (s.roundEndIf (s.openTimerComesDue r) r i).refreshFault :=
  act_powered hp fun s => s.roundEndIf (s.openTimerComesDue r) r i

theorem exec_captureEnd (r : Round) (i : StartInputs) {s : State} (hp : s.powered = true) :
    exec (.captureEnd r i) s = .next (s.roundEndIf (s.captureComesToEnd r) r i).refreshFault :=
  act_powered hp fun s => s.roundEndIf (s.captureComesToEnd r) r i

theorem exec_enterDormant (r : Round) (i : StartInputs) {s : State} (hp : s.powered = true) :
    exec (.enterDormant r i) s = .next (s.roundEndIf (s.restComesDue r) r i).refreshFault :=
  act_powered hp fun s => s.roundEndIf (s.restComesDue r) r i

theorem exec_fetch (banner : Banner) (n : Word) {s : State} (hp : s.powered = true) :
    exec (.fetch banner n) s = .next (s.orderToStation banner .fetch n noStart).refreshFault :=
  act_powered hp fun s => s.orderToStation banner .fetch n noStart

theorem exec_fetchOldestUnread (banner : Banner) {s : State} (hp : s.powered = true) :
    exec (.fetchOldestUnread banner) s = .next (s.orderToStation banner .fetch 0 noStart).refreshFault :=
  act_powered hp fun s => s.orderToStation banner .fetch 0 noStart

theorem exec_fetchStatus (banner : Banner) {s : State} (hp : s.powered = true) :
    exec (.fetchStatus banner) s = .next (s.orderToStation banner .fetch 0xFFFF noStart).refreshFault :=
  act_powered hp fun s => s.orderToStation banner .fetch 0xFFFF noStart

theorem exec_mark (banner : Banner) (n : Word) {s : State} (hp : s.powered = true) :
    exec (.mark banner n) s = .next (s.orderToStation banner .mark n noStart).refreshFault :=
  act_powered hp fun s => s.orderToStation banner .mark n noStart

theorem exec_unlock (banner : Banner) (part : Word) {s : State} (hp : s.powered = true) :
    exec (.unlock banner part) s = .next (s.orderToStation banner .unlock part noStart).refreshFault :=
  act_powered hp fun s => s.orderToStation banner .unlock part noStart

theorem exec_relock (banner : Banner) (arg : Word) {s : State} (hp : s.powered = true) :
    exec (.relock banner arg) s = .next (s.orderToStation banner .relock arg noStart).refreshFault :=
  act_powered hp fun s => s.orderToStation banner .relock arg noStart

theorem exec_load (banner : Banner) (value : Word) {s : State} (hp : s.powered = true) :
    exec (.load banner value) s = .next (s.orderToStation banner .load value noStart).refreshFault :=
  act_powered hp fun s => s.orderToStation banner .load value noStart

theorem exec_program (banner : Banner) (word : Word) {s : State} (hp : s.powered = true) :
    exec (.program banner word) s = .next (s.orderToStation banner .program word noStart).refreshFault :=
  act_powered hp fun s => s.orderToStation banner .program word noStart

theorem exec_erase (banner : Banner) (arg : Word) {s : State} (hp : s.powered = true) :
    exec (.erase banner arg) s = .next (s.orderToStation banner .erase arg noStart).refreshFault :=
  act_powered hp fun s => s.orderToStation banner .erase arg noStart

theorem exec_eraseSetupPulse (banner : Banner) {s : State} (hp : s.powered = true) :
    exec (.eraseSetupPulse banner) s = .next (s.orderToStation banner .erase 2 noStart).refreshFault :=
  act_powered hp fun s => s.orderToStation banner .erase 2 noStart

theorem exec_restart (banner : Banner) (arg : Word) (i : StartInputs) {s : State} (hp : s.powered = true) :
    exec (.restart banner arg i) s = .next (s.orderToStation banner .restart arg i).refreshFault :=
  act_powered hp fun s => s.orderToStation banner .restart arg i

theorem exec_streamWordLoad {s : State} (hp : s.powered = true) :
    exec .streamWordLoad s = .next s.streamWordLoad.refreshFault :=
  act_powered hp fun s => s.streamWordLoad

theorem exec_alertPulseEnd {s : State} (hp : s.powered = true) :
    exec .alertPulseEnd s = .next s.alertPulseEnd.refreshFault :=
  act_powered hp fun s => s.alertPulseEnd

theorem exec_wordProgramDone (missed : Word) {s : State} (hp : s.powered = true) (ho : s.programsOutside = false) :
    exec (.wordProgramDone missed) s = .next (s.wordProgramDone missed).refreshFault := by
  show execWordProgramDone missed s = _
  rw [execWordProgramDone, ho, if_neg Bool.false_ne_true]
  exact act_powered hp fun s => s.wordProgramDone missed

theorem exec_bankEraseDone (unset : WordMasks) (missed : Word) {s : State} (hp : s.powered = true) :
    exec (.bankEraseDone unset missed) s = .next (s.bankEraseDone unset missed).refreshFault :=
  act_powered hp fun s => s.bankEraseDone unset missed

theorem exec_setupProgramPulseDone (missed : Word) {s : State} (hp : s.powered = true) :
    exec (.setupProgramPulseDone missed) s = .next (s.setupProgramPulseDone missed).refreshFault :=
  act_powered hp fun s => s.setupProgramPulseDone missed

theorem exec_setupErasePulseDone (unset : WordMasks) {s : State} (hp : s.powered = true) :
    exec (.setupErasePulseDone unset) s = .next (s.setupErasePulseDone unset).refreshFault :=
  act_powered hp fun s => s.setupErasePulseDone unset

theorem exec_senseTimerExpiry {s : State} (hp : s.powered = true) :
    exec .senseTimerExpiry s = .next s.senseTimerExpiry.refreshFault :=
  act_powered hp fun s => s.senseTimerExpiry

theorem exec_senseConversionDone (x : Sample) {s : State} (hp : s.powered = true) :
    exec (.senseConversionDone x) s = .next (s.senseConversionDone x).refreshFault :=
  act_powered hp fun s => s.senseConversionDone x

theorem exec_forcedWakeExpiry {s : State} (hp : s.powered = true) :
    exec .forcedWakeExpiry s = .next s.forcedWakeExpiry.refreshFault :=
  act_powered hp fun s => s.forcedWakeExpiry

theorem exec_wakePatternEnd {s : State} (hp : s.powered = true) :
    exec .wakePatternEnd s = .next s.wakePatternEnd.refreshFault :=
  act_powered hp fun s => s.wakePatternEnd

theorem exec_longLow {s : State} (hp : s.powered = true) : exec .longLow s = .next s.longLow.refreshFault :=
  act_powered hp fun s => s.longLow

theorem exec_longLowTimingStart {s : State} (hp : s.powered = true) :
    exec .longLowTimingStart s = .next s.longLowTimingStart.refreshFault :=
  act_powered hp fun s => s.longLowTimingStart

theorem exec_patternWindowExpiry {s : State} (hp : s.powered = true) :
    exec .patternWindowExpiry s = .next s.patternWindowExpiry.refreshFault :=
  act_powered hp fun s => s.patternWindowExpiry

end Sys2Proof.Machine
end

