-- ==== Sys2Proof/Laws/Memory.lean ====
section
/-!
SUPPORT. The non-volatile arrays: what each operation reads afterwards, and that each keeps the canonical form.
-/

namespace Sys2Proof.Machine

/-- The addresses of a list, rising. -/
abbrev nvRising (m : Nv) : Prop := (m.map Prod.fst).Pairwise (· < ·)

theorem nvWf_iff (size : Nat) (m : Nv) :
    nvWf size m = true ↔ nvRising m ∧ ∀ c ∈ m, c.1 < size ∧ c.2 ≠ erasedWord := by
  simp [nvWf, nvRising, List.all_eq_true]

theorem nvWf_rising {size : Nat} {m : Nv} (h : nvWf size m = true) : nvRising m := ((nvWf_iff _ _).1 h).1

theorem nvWf_nil (size : Nat) : nvWf size [] = true := by simp [nvWf]

theorem nvRising_cons {b : Nat} {w : Word} {m : Nv} :
    nvRising ((b, w) :: m) ↔ (∀ c ∈ m, b < c.1) ∧ nvRising m := by
  simp [nvRising]

/-- An address below every listed one reads erased. -/
theorem nvRead_of_lt {m : Nv} {a : Nat} (h : ∀ c ∈ m, a < c.1) : nvRead m a = erasedWord := by
  induction m with
  | nil => rfl
  | cons c m ih =>
    obtain ⟨b, w⟩ := c
    have hb : a < b := h (b, w) (by simp)
    have : b ≠ a := by omega
    simp only [nvRead, this, if_false]
    exact ih fun c hc => h c (by simp [hc])

/-- A read after a write. -/
theorem nvRead_nvWrite {m : Nv} (h : nvRising m) (a : Nat) (v : Word) (b : Nat) :
    nvRead (nvWrite m a v) b = if b = a then v else nvRead m b := by
  induction m with
  | nil =>
    by_cases hv : v = erasedWord
    · simp [nvWrite, nvRead, hv]
    · by_cases hb : b = a
      · simp [nvWrite, nvRead, hv, hb]
      · have : ¬a = b := fun e => hb e.symm
        simp [nvWrite, nvRead, hv, hb, this]
  | cons c m ih =>
    obtain ⟨d, w⟩ := c
    obtain ⟨hd, hm⟩ := nvRising_cons.1 h
    have ih := ih hm
    by_cases h1 : a < d
    · have hda : ¬d = a := by omega
      have hrest : nvRead m a = erasedWord := nvRead_of_lt fun c hc => by have := hd c hc; omega
      by_cases hv : v = erasedWord
      · by_cases hb : b = a
        · simp [nvWrite, nvRead, h1, hv, hb, hda, hrest]
        · simp [nvWrite, nvRead, h1, hv, hb]
      · by_cases hb : b = a
        · simp [nvWrite, nvRead, h1, hv, hb]
        · have : ¬a = b := fun e => hb e.symm
          simp [nvWrite, nvRead, h1, hv, hb, this]
    · by_cases h2 : a = d
      · subst h2
        have hrest : nvRead m a = erasedWord := nvRead_of_lt hd
        by_cases hv : v = erasedWord
        · by_cases hb : b = a
          · simp [nvWrite, hv, hb, hrest]
          · have : ¬a = b := fun e => hb e.symm
            simp [nvWrite, nvRead, hv, hb, this]
        · by_cases hb : b = a
          · simp [nvWrite, nvRead, hv, hb]
          · have : ¬a = b := fun e => hb e.symm
            simp [nvWrite, nvRead, hv, hb, this]
      · by_cases hb : d = b
        · have : ¬b = a := by omega
          subst hb
          simp [nvWrite, nvRead, h1, h2, this]
        · simp [nvWrite, nvRead, h1, h2, hb, ih]

theorem nvWrite_mem {m : Nv} {a : Nat} {v : Word} {c : Nat × Word} (h : c ∈ nvWrite m a v) :
    (c = (a, v) ∧ v ≠ erasedWord) ∨ c ∈ m := by
  induction m with
  | nil =>
    by_cases hv : v = erasedWord <;> simp [nvWrite, hv] at h
    exact .inl ⟨h, hv⟩
  | cons d m ih =>
    obtain ⟨b, w⟩ := d
    by_cases h1 : a < b
    · by_cases hv : v = erasedWord
      · simp [nvWrite, h1, hv] at h; simp [h]
      · simp [nvWrite, h1, hv] at h; rcases h with h | h | h <;> simp [h, hv]
    · by_cases h2 : a = b
      · by_cases hv : v = erasedWord
        · simp [nvWrite, h2, hv] at h; simp [h]
        · simp [nvWrite, h2, hv] at h; rcases h with h | h <;> simp [h, hv, h2]
      · simp [nvWrite, h1, h2] at h
        rcases h with h | h
        · simp [h]
        · rcases ih h with h | h
          · exact .inl h
          · simp [h]

theorem nvWrite_rising {m : Nv} (h : nvRising m) (a : Nat) (v : Word) : nvRising (nvWrite m a v) := by
  induction m with
  | nil => by_cases hv : v = erasedWord <;> simp [nvWrite, hv, nvRising]
  | cons d m ih =>
    obtain ⟨b, w⟩ := d
    obtain ⟨hd, hm⟩ := nvRising_cons.1 h
    by_cases h1 : a < b
    · by_cases hv : v = erasedWord
      · simpa [nvWrite, h1, hv] using h
      · simp only [nvWrite, h1, hv, if_true, if_false]
        refine nvRising_cons.2 ⟨fun c hc => ?_, h⟩
        rcases List.mem_cons.1 hc with rfl | hc
        · exact h1
        · have := hd c hc; omega
    · by_cases h2 : a = b
      · subst h2
        by_cases hv : v = erasedWord
        · simpa [nvWrite, hv] using hm
        · simp only [nvWrite, hv, if_true, if_false, lt_irrefl]
          exact nvRising_cons.2 ⟨hd, hm⟩
      · simp only [nvWrite, h1, h2, if_false]
        refine nvRising_cons.2 ⟨fun c hc => ?_, ih hm⟩
        rcases nvWrite_mem hc with ⟨rfl, _⟩ | hc
        · show b < a; omega
        · exact hd c hc

/-- A write inside the array keeps the canonical form. -/
theorem nvWrite_wf {size : Nat} {m : Nv} (h : nvWf size m = true) {a : Nat} (ha : a < size) (v : Word) :
    nvWf size (nvWrite m a v) = true := by
  obtain ⟨hr, hm⟩ := (nvWf_iff _ _).1 h
  refine (nvWf_iff _ _).2 ⟨nvWrite_rising hr a v, fun c hc => ?_⟩
  rcases nvWrite_mem hc with ⟨rfl, hv⟩ | hc
  · exact ⟨ha, hv⟩
  · exact hm c hc

/-- A program keeps the canonical form, whatever the address. -/
theorem nvProgram_wf {size : Nat} {m : Nv} (h : nvWf size m = true) (a : Nat) (v missed : Word) :
    nvWf size (nvProgram size m a v missed) = true := by
  unfold nvProgram
  split
  · exact nvWrite_wf h ‹_› _
  · exact h

/-- A read after a program: the word ANDed, every other word unchanged (R113). -/
theorem nvRead_nvProgram {size : Nat} {m : Nv} (h : nvRising m) {a : Nat} (ha : a < size) (v missed : Word) (b : Nat) :
    nvRead (nvProgram size m a v missed) b = if b = a then programmedWord (nvRead m a) v missed else nvRead m b := by
  simp only [nvProgram, ha, if_true]
  exact nvRead_nvWrite h a _ b

/-- A cell after an erase. -/
def erasedCell (u : WordMasks) (c : Nat × Word) : Option (Nat × Word) :=
  if (c.2 ||| ~~~(maskAt u c.1)) = erasedWord then none else some (c.1, c.2 ||| ~~~(maskAt u c.1))

theorem nvErase_cons (c : Nat × Word) (m : Nv) (u : WordMasks) :
    nvErase (c :: m) u = (erasedCell u c).toList ++ nvErase m u := by
  unfold nvErase erasedCell
  rw [List.filterMap_cons]
  simp only
  split_ifs <;> simp_all

theorem nvErase_mem {m : Nv} {u : WordMasks} {c : Nat × Word} (h : c ∈ nvErase m u) :
    c.2 ≠ erasedWord ∧ ∃ w, (c.1, w) ∈ m := by
  induction m with
  | nil => simp [nvErase] at h
  | cons d m ih =>
    rw [nvErase_cons] at h
    rcases List.mem_append.1 h with h | h
    · unfold erasedCell at h
      split at h
      · simp at h
      · next hne =>
        simp at h
        subst h
        exact ⟨hne, d.2, by simp⟩
    · obtain ⟨h1, w, hw⟩ := ih h
      exact ⟨h1, w, by simp [hw]⟩

theorem nvErase_rising {m : Nv} (h : nvRising m) (u : WordMasks) : nvRising (nvErase m u) := by
  induction m with
  | nil => simp [nvErase, nvRising]
  | cons d m ih =>
    obtain ⟨b, w⟩ := d
    obtain ⟨hd, hm⟩ := nvRising_cons.1 h
    rw [nvErase_cons]
    unfold erasedCell
    split
    · simpa using ih hm
    · refine nvRising_cons.2 ⟨fun c hc => ?_, ih hm⟩
      obtain ⟨_, w', hw⟩ := nvErase_mem hc
      exact hd (c.1, w') hw

/-- An erase keeps the canonical form. -/
theorem nvErase_wf {size : Nat} {m : Nv} (h : nvWf size m = true) (u : WordMasks) : nvWf size (nvErase m u) = true := by
  obtain ⟨hr, hm⟩ := (nvWf_iff _ _).1 h
  refine (nvWf_iff _ _).2 ⟨nvErase_rising hr u, fun c hc => ?_⟩
  obtain ⟨h1, w, hw⟩ := nvErase_mem hc
  exact ⟨(hm _ hw).1, h1⟩

theorem ones_or (w : Word) : erasedWord ||| w = erasedWord := by
  have h : erasedWord = BitVec.allOnes 16 := by decide
  rw [h, BitVec.allOnes_or]

/-- A read after an erase: the zero bits it failed to set stay 0, every other bit is 1 (R113). -/
theorem nvRead_nvErase {m : Nv} (h : nvRising m) (u : WordMasks) (a : Nat) :
    nvRead (nvErase m u) a = nvRead m a ||| ~~~(maskAt u a) := by
  induction m with
  | nil => exact (ones_or _).symm
  | cons d m ih =>
    obtain ⟨b, w⟩ := d
    obtain ⟨hd, hm⟩ := nvRising_cons.1 h
    rw [nvErase_cons]
    unfold erasedCell
    by_cases hb : b = a
    · subst hb
      split
      · next he =>
        have hlt : ∀ c ∈ nvErase m u, b < c.1 := fun c hc => by
          obtain ⟨_, w', hw⟩ := nvErase_mem hc
          exact hd (c.1, w') hw
        simpa [nvRead] using (nvRead_of_lt hlt).trans he.symm
      · simp [nvRead]
    · split
      · simpa [nvRead, hb] using ih hm
      · simpa [nvRead, hb] using ih hm

/-- An array in canonical form lists nothing exactly when every word of it reads as erased. -/
theorem nvWf_eq_nil_iff {size : Nat} {m : Nv} (h : nvWf size m = true) :
    m = [] ↔ ∀ a, a < size → nvRead m a = erasedWord := by
  refine ⟨fun hm _ _ => by rw [hm]; rfl, fun hr => ?_⟩
  cases m with
  | nil => rfl
  | cons d m =>
    obtain ⟨ha, hw⟩ := ((nvWf_iff _ _).1 h).2 d (by simp)
    exact absurd (by simpa [nvRead] using hr d.1 ha) hw

end Sys2Proof.Machine
end

