-- ==== Sys2Proof/Laws/Programmer.lean ====
section
/-!
SUPPORT. What the NV Programmer's operations can touch: the arrays, the store, the staging slots, the programmer itself and
the Order Unit's replies; nothing else. And they keep the arrays' canonical form.
-/

namespace Sys2Proof.Machine

/-- The blocks the NV Programmer never touches stand in `t` as in `s`. -/
structure ProgrammerKeeps (s t : State) : Prop where
  powered : t.powered = s.powered
  pins : t.pins = s.pins
  line : t.line = s.line
  membership : t.membership = s.membership
  sequencer : t.sequencer = s.sequencer
  monitors : t.monitors = s.monitors
  ring : t.ring = s.ring
  engine : t.engine = s.engine
  lock : t.lock = s.lock
  settings : t.settings = s.settings
  setupFault : t.setup.fault = s.setup.fault
  validated : t.setup.validated = s.setup.validated
  rest : t.rest = s.rest
  pending : t.pending = s.pending
  scanned : t.store.scanned = s.store.scanned
  scan : t.store.scan = s.store.scan
  openTimer : t.orders.openTimer = s.orders.openTimer
  holding : t.orders.holding = s.orders.holding
  pulseCount : t.orders.pulseCount = s.orders.pulseCount
  pulseIndex : t.orders.pulseIndex = s.orders.pulseIndex

theorem ProgrammerKeeps.refl (s : State) : ProgrammerKeeps s s := by constructor <;> rfl

theorem ProgrammerKeeps.trans {s t u : State} (h : ProgrammerKeeps s t) (g : ProgrammerKeeps t u) :
    ProgrammerKeeps s u where
  powered := g.powered.trans h.powered
  pins := g.pins.trans h.pins
  line := g.line.trans h.line
  membership := g.membership.trans h.membership
  sequencer := g.sequencer.trans h.sequencer
  monitors := g.monitors.trans h.monitors
  ring := g.ring.trans h.ring
  engine := g.engine.trans h.engine
  lock := g.lock.trans h.lock
  settings := g.settings.trans h.settings
  setupFault := g.setupFault.trans h.setupFault
  validated := g.validated.trans h.validated
  rest := g.rest.trans h.rest
  pending := g.pending.trans h.pending
  scanned := g.scanned.trans h.scanned
  scan := g.scan.trans h.scan
  openTimer := g.openTimer.trans h.openTimer
  holding := g.holding.trans h.holding
  pulseCount := g.pulseCount.trans h.pulseCount
  pulseIndex := g.pulseIndex.trans h.pulseIndex

/-! ### The store's own operations leave the scan alone -/

/-- The scan, ended or not, stands in a store as in another. -/
structure ScanKept (t u : Store) : Prop where
  scanned : u.scanned = t.scanned
  scan : u.scan = t.scan

theorem ScanKept.refl (t : Store) : ScanKept t t := ⟨rfl, rfl⟩

theorem ScanKept.trans {t u v : Store} (h : ScanKept t u) (g : ScanKept u v) : ScanKept t v :=
  ⟨g.scanned.trans h.scanned, g.scan.trans h.scan⟩

theorem Store.setBank_scanKept (t : Store) (b : BankId) (v : Bank) : ScanKept t (t.setBank b v) := by
  constructor <;> simp

theorem Store.closeBank_scanKept (t : Store) (b : BankId) : ScanKept t (t.closeBank b) := by
  constructor <;> simp [Store.closeBank, Store.setState]

theorem Store.eraseVerified_scanKept (t : Store) (b : BankId) : ScanKept t (t.eraseVerified b) := by
  unfold Store.eraseVerified; split <;> constructor <;> simp [Store.setState]

theorem Store.eraseFailed_scanKept (t : Store) (b : BankId) : ScanKept t (t.eraseFailed b) := by
  constructor <;> simp [Store.eraseFailed, Store.setState]

theorem reclaim_scanKept (p : StorePolicy) (t : Store) (m : Arrays) (b : BankId) :
    ScanKept t (reclaim p t m b).1 := by
  unfold reclaim; split
  · exact Store.setBank_scanKept _ _ _
  · exact ScanKept.refl t

theorem roomNoOpen_scanKept (p : StorePolicy) (t : Store) (m : Arrays) : ScanKept t (roomNoOpen p t m).1 := by
  unfold roomNoOpen
  split_ifs
  · constructor <;> simp [Store.openFresh, Store.setState]
  · constructor <;> simp [Store.openFresh, Store.setState]
  · exact ScanKept.refl t
  · split
    · exact reclaim_scanKept _ _ _ _
    · exact ScanKept.refl t

theorem roomCheck_scanKept (p : StorePolicy) (t : Store) (m : Arrays) (n : Nat) :
    ScanKept t (roomCheck p t m n).1 := by
  have h : ScanKept t (roomCases p t m n).1 := by
    unfold roomCases
    split
    · split_ifs
      · exact ScanKept.refl t
      · exact ScanKept.refl t
      · exact (Store.closeBank_scanKept _ _).trans (roomNoOpen_scanKept _ _ _)
    · exact roomNoOpen_scanKept _ _ _
  exact ⟨h.scanned, h.scan⟩

/-! ### Updates the programmer makes -/

theorem keeps_setProgrammer (s : State) (v : Programmer) : ProgrammerKeeps s (s.setProgrammer v) := by
  constructor <;> rfl

theorem keeps_setArrays (s : State) (v : Arrays) : ProgrammerKeeps s (s.setArrays v) := by constructor <;> rfl

theorem keeps_setStaging (s : State) (v : Staging) : ProgrammerKeeps s (s.setStaging v) := by constructor <;> rfl

theorem keeps_setStore (s : State) {v : Store} (h : ScanKept s.store v) : ProgrammerKeeps s (s.setStore v) := by
  constructor <;> first | rfl | exact h.scanned | exact h.scan

theorem keeps_beginOp (s : State) (op : Operation) : ProgrammerKeeps s (s.beginOp op) := keeps_setProgrammer _ _

theorem keeps_beginStep (s : State) (p : Purpose) (b : BankId) (a : Nat) (v : Word) :
    ProgrammerKeeps s (s.beginStep p b a v) := keeps_setProgrammer _ _

theorem keeps_beginWord (s : State) (p : Purpose) (b : BankId) (a : Nat) (v : Word) :
    ProgrammerKeeps s (s.beginWord p b a v) := keeps_setProgrammer _ _

theorem keeps_reportMark (s : State) (aw : Bool) (r : Reply) : ProgrammerKeeps s (s.reportMark aw r) := by
  unfold State.reportMark; split
  · constructor <;> rfl
  · exact .refl s

theorem keeps_answerOwed (s : State) (owed : Bool) (r : Reply) : ProgrammerKeeps s (s.answerOwed owed r) := by
  unfold State.answerOwed; split
  · constructor <;> rfl
  · exact .refl s

theorem keeps_bankErased (s : State) (b : BankId) : ProgrammerKeeps s (s.setOrders (s.orders.bankErased b)) := by
  unfold Orders.bankErased
  split
  · split <;> constructor <;> rfl
  · exact .refl s
  · exact .refl s

theorem keeps_programEnded (s : State) (b : BankId) (m : Nv) :
    ProgrammerKeeps s (s.setOrders (s.orders.programEnded b m)) := by
  unfold Orders.programEnded
  split
  · split <;> constructor <;> rfl
  · exact .refl s

/-! ### Taking an operation (R132) -/

theorem keeps_orTake {s t : State} {f : State → State} (h : ProgrammerKeeps s t) (hf : ∀ u, ProgrammerKeeps u (f u)) :
    ProgrammerKeeps s (t.orTake f) := by
  unfold State.orTake; split
  · exact h.trans (hf t)
  · exact h

theorem keeps_takePulse (s : State) : ProgrammerKeeps s s.takePulse := by
  unfold State.takePulse; split
  · exact .refl s
  · exact keeps_setProgrammer _ _

theorem keeps_takeMarks (js : List MarkJob) : ∀ s : State, ProgrammerKeeps s (s.takeMarks js) := by
  induction js with
  | nil => intro s; exact keeps_setProgrammer _ _
  | cons j js ih =>
    intro s
    unfold State.takeMarks
    split
    · split
      · exact keeps_setProgrammer _ _
      · exact (keeps_reportMark _ _ _).trans (ih _)
    · exact (keeps_reportMark _ _ _).trans (ih _)

theorem keeps_beginCommitWord (s : State) (c : Commit) : ProgrammerKeeps s (s.beginCommitWord c) := by
  unfold State.beginCommitWord
  split_ifs
  · exact (keeps_setStore s (Store.setBank_scanKept _ _ _)).trans (keeps_beginStep _ _ _ _ _)
  · exact keeps_beginStep _ _ _ _ _
  · exact keeps_beginWord _ _ _ _ _

theorem keeps_takeSlot (s : State) (b : BankId) : ProgrammerKeeps s (s.takeSlot b) := by
  unfold State.takeSlot; split
  · exact (keeps_setStaging _ _).trans (keeps_setProgrammer _ _)
  · exact .refl s

theorem keeps_continueCommit (s : State) : ProgrammerKeeps s s.continueCommit := by
  unfold State.continueCommit; split
  · exact keeps_beginCommitWord _ _
  · exact .refl s

theorem keeps_beginCommit (s : State) (b : BankId) : ProgrammerKeeps s (s.beginCommit b) := by
  unfold State.beginCommit; split
  · exact keeps_beginWord _ _ _ _ _
  · exact (keeps_takeSlot _ _).trans (keeps_continueCommit _)

theorem keeps_takeRecord (s : State) : ProgrammerKeeps s s.takeRecord := by
  unfold State.takeRecord
  split
  · exact keeps_beginCommitWord _ _
  · split
    · exact .refl s
    · simp only
      split
      · exact (keeps_setStore _ (roomCheck_scanKept _ _ _ _)).trans (keeps_beginCommit _ _)
      · exact keeps_setStore _ (roomCheck_scanKept _ _ _ _)
      · exact keeps_setStore _ (roomCheck_scanKept _ _ _ _)

theorem keeps_takeVoid (s : State) : ProgrammerKeeps s s.takeVoid := by
  unfold State.takeVoid; split
  · exact .refl s
  · refine (keeps_setStore s ?_).trans (keeps_beginStep _ _ _ _ _)
    exact ⟨rfl, rfl⟩

theorem keeps_beginBankErase (s : State) (b : BankId) : ProgrammerKeeps s (s.beginBankErase b) := by
  unfold State.beginBankErase
  refine ((keeps_setStore s ?_).trans (keeps_setArrays _ _)).trans ((keeps_bankErased _ b).trans (keeps_beginOp _ _))
  constructor <;> simp [Store.beginErase]

theorem keeps_takeErase (s : State) : ProgrammerKeeps s s.takeErase := by
  unfold State.takeErase; split_ifs
  · exact keeps_beginBankErase _ _
  · exact keeps_beginBankErase _ _
  · exact .refl s

/-- Everything that taking the next operation can touch. -/
theorem keeps_take (s : State) : ProgrammerKeeps s s.take := by
  unfold State.take
  refine keeps_orTake (keeps_orTake (keeps_orTake (keeps_orTake (keeps_orTake (.refl s) ?_) ?_) ?_) ?_) ?_
  · exact keeps_takePulse
  · exact fun u => keeps_takeMarks _ u
  · exact keeps_takeRecord
  · exact keeps_takeVoid
  · exact keeps_takeErase

@[simp] theorem State.take_membership (s : State) : s.take.membership = s.membership := (keeps_take s).membership
@[simp] theorem State.take_line (s : State) : s.take.line = s.line := (keeps_take s).line
@[simp] theorem State.take_engine (s : State) : s.take.engine = s.engine := (keeps_take s).engine
@[simp] theorem State.take_lock (s : State) : s.take.lock = s.lock := (keeps_take s).lock
@[simp] theorem State.take_rest (s : State) : s.take.rest = s.rest := (keeps_take s).rest
@[simp] theorem State.take_pins (s : State) : s.take.pins = s.pins := (keeps_take s).pins
@[simp] theorem State.take_powered (s : State) : s.take.powered = s.powered := (keeps_take s).powered
@[simp] theorem State.take_sequencer (s : State) : s.take.sequencer = s.sequencer := (keeps_take s).sequencer
@[simp] theorem State.take_monitors (s : State) : s.take.monitors = s.monitors := (keeps_take s).monitors
@[simp] theorem State.take_ring (s : State) : s.take.ring = s.ring := (keeps_take s).ring
@[simp] theorem State.take_settings (s : State) : s.take.settings = s.settings := (keeps_take s).settings
@[simp] theorem State.take_pending (s : State) : s.take.pending = s.pending := (keeps_take s).pending
@[simp] theorem State.take_holding (s : State) : s.take.orders.holding = s.orders.holding := (keeps_take s).holding
@[simp] theorem State.take_openTimer (s : State) : s.take.orders.openTimer = s.orders.openTimer :=
  (keeps_take s).openTimer
@[simp] theorem State.take_pulseCount (s : State) : s.take.orders.pulseCount = s.orders.pulseCount :=
  (keeps_take s).pulseCount
@[simp] theorem State.take_setupFault (s : State) : s.take.setup.fault = s.setup.fault := (keeps_take s).setupFault

/-- A busy programmer takes nothing (R131). -/
theorem State.take_of_busy {s : State} (h : s.programmer.op ≠ .idle) : s.take = s := by
  simp [State.take, State.orTake, h]

/-! ### The end of an operation -/

theorem keeps_endCommit (s : State) (c : Commit) : ProgrammerKeeps s (s.endCommit c) :=
  (keeps_setStaging _ _).trans (keeps_setProgrammer _ _)

theorem keeps_commitComplete (s : State) (c : Commit) : ProgrammerKeeps s (s.commitComplete c) := by
  unfold State.commitComplete
  refine (keeps_setStore s ?_).trans (keeps_endCommit _ _)
  exact ⟨rfl, rfl⟩

theorem keeps_commitVoid (s : State) (c : Commit) : ProgrammerKeeps s (s.commitVoid c) := by
  unfold State.commitVoid
  refine (keeps_setStore s ?_).trans (keeps_endCommit _ _)
  constructor <;> simp [Store.closeBank, Store.setState]

theorem keeps_commitWordWritten (s : State) (c : Commit) : ProgrammerKeeps s (s.commitWordWritten c) := by
  unfold State.commitWordWritten; split
  · exact keeps_commitComplete _ _
  · exact keeps_setProgrammer _ _

theorem keeps_markEnded (s : State) (w : WordOp) (n : Word) (aw p : Bool) :
    ProgrammerKeeps s (s.markEnded w n aw p) := by
  unfold State.markEnded
  refine ProgrammerKeeps.trans ?_ (keeps_reportMark _ _ _)
  split
  · exact keeps_setStore s ⟨rfl, rfl⟩
  · exact .refl s

theorem keeps_wordEnded (s : State) (w : WordOp) (p : Bool) : ProgrammerKeeps s (s.wordEnded w p) := by
  unfold State.wordEnded
  split
  · split
    · exact (keeps_takeSlot _ _).trans (keeps_take _)
    · refine (keeps_setStore s ?_).trans (keeps_take _)
      constructor <;> simp [Store.headerFailed]
  · split
    · exact (keeps_commitWordWritten _ _).trans (keeps_take _)
    · exact keeps_beginStep _ _ _ _ _
  · exact (keeps_commitVoid _ _).trans (keeps_take _)
  · exact keeps_take _
  · exact keeps_take _
  · exact (keeps_markEnded _ _ _ _ _).trans (keeps_take _)
  · exact keeps_take _

theorem keeps_attemptEnded (s : State) (w : WordOp) (missed : Word) : ProgrammerKeeps s (s.attemptEnded w missed) := by
  unfold State.attemptEnded
  simp only
  split
  · exact (((keeps_setArrays _ _).trans (keeps_programEnded _ _ _)).trans (keeps_beginOp _ _)).trans
      (keeps_wordEnded _ _ _)
  · exact (keeps_setArrays _ _).trans (keeps_beginOp _ _)

theorem keeps_bankEraseEnded (s : State) (b : BankId) (u : WordMasks) (missed : Word) :
    ProgrammerKeeps s (s.bankEraseEnded b u missed) := by
  unfold State.bankEraseEnded
  refine (((keeps_setArrays _ _).trans (keeps_setStore _ ?_)).trans (keeps_beginOp _ _)).trans (keeps_take _)
  split
  · exact Store.eraseVerified_scanKept _ _
  · exact Store.eraseFailed_scanKept _ _

theorem keeps_programPulseEnded (s : State) (i : Nat) (v : Word) (k : Nat) (owed : Bool) (missed : Word) :
    ProgrammerKeeps s (s.programPulseEnded i v k owed missed) := by
  unfold State.programPulseEnded
  split
  · exact (((keeps_setArrays _ _).trans (keeps_beginOp _ _)).trans (keeps_answerOwed _ _ _)).trans (keeps_take _)
  · exact (keeps_beginOp _ _).trans (keeps_take _)

theorem keeps_erasePulseEnded (s : State) (k : Nat) (owed : Bool) (u : WordMasks) :
    ProgrammerKeeps s (s.erasePulseEnded k owed u) := by
  unfold State.erasePulseEnded
  split
  · exact (((keeps_setArrays _ _).trans (keeps_beginOp _ _)).trans (keeps_answerOwed _ _ _)).trans (keeps_take _)
  · exact (keeps_beginOp _ _).trans (keeps_take _)

/-! ### The arrays stay canonical -/

theorem Arrays.wf_iff (m : Arrays) :
    m.wf = true ↔ nvWf Config.bankWords m.bank0 = true ∧ nvWf Config.bankWords m.bank1 = true
      ∧ nvWf Config.setupWords m.setup = true := by
  simp [Arrays.wf, and_assoc]

theorem Arrays.wf_bank {m : Arrays} (h : m.wf = true) (b : BankId) : nvWf Config.bankWords (m.bank b) = true := by
  obtain ⟨h0, h1, _⟩ := (Arrays.wf_iff m).1 h
  cases b
  · exact h0
  · exact h1

theorem Arrays.wf_setBank {m : Arrays} (h : m.wf = true) (b : BankId) {v : Nv} (hv : nvWf Config.bankWords v = true) :
    (m.setBank b v).wf = true := by
  obtain ⟨h0, h1, h2⟩ := (Arrays.wf_iff m).1 h
  cases b
  · exact (Arrays.wf_iff _).2 ⟨hv, h1, h2⟩
  · exact (Arrays.wf_iff _).2 ⟨h0, hv, h2⟩

theorem Arrays.wf_setup {m : Arrays} (h : m.wf = true) {v : Nv} (hv : nvWf Config.setupWords v = true) :
    ({ m with setup := v } : Arrays).wf = true := by
  obtain ⟨h0, h1, _⟩ := (Arrays.wf_iff m).1 h
  exact (Arrays.wf_iff _).2 ⟨h0, h1, hv⟩

theorem takeMarks_arrays (js : List MarkJob) : ∀ s : State, (s.takeMarks js).arrays = s.arrays := by
  induction js with
  | nil => intro s; rfl
  | cons j js ih =>
    intro s
    have hr : ∀ r, (s.reportMark j.awaited r).arrays = s.arrays := by
      intro r; unfold State.reportMark; split <;> rfl
    unfold State.takeMarks
    split
    · split
      · rfl
      · rw [ih, hr]
    · rw [ih, hr]

theorem beginCommitWord_arrays (s : State) (c : Commit) : (s.beginCommitWord c).arrays = s.arrays := by
  unfold State.beginCommitWord; split_ifs <;> rfl

theorem takeSlot_arrays (s : State) (b : BankId) : (s.takeSlot b).arrays = s.arrays := by
  unfold State.takeSlot; split <;> rfl

theorem takeRecord_arrays (s : State) : s.takeRecord.arrays = s.arrays := by
  unfold State.takeRecord
  split
  · exact beginCommitWord_arrays _ _
  · split
    · rfl
    · simp only
      split
      · unfold State.beginCommit
        split
        · rfl
        · unfold State.continueCommit
          split
          · rw [beginCommitWord_arrays, takeSlot_arrays]; rfl
          · rw [takeSlot_arrays]; rfl
      · rfl
      · rfl

theorem beginBankErase_wf {s : State} (h : s.arrays.wf = true) (b : BankId) : (s.beginBankErase b).arrays.wf = true := by
  show (s.arrays.setBank b _).wf = true
  exact Arrays.wf_setBank h b (nvWrite_wf (Arrays.wf_bank h b) (by decide) _)

theorem orTake_wf {t : State} {f : State → State} (h : t.arrays.wf = true)
    (hf : ∀ u : State, u.arrays.wf = true → (f u).arrays.wf = true) : (t.orTake f).arrays.wf = true := by
  unfold State.orTake; split
  · exact hf t h
  · exact h

theorem take_wf {s : State} (h : s.arrays.wf = true) : s.take.arrays.wf = true := by
  unfold State.take
  refine orTake_wf (orTake_wf (orTake_wf (orTake_wf (orTake_wf h ?_) ?_) ?_) ?_) ?_
  · intro u hu
    unfold State.takePulse; split
    · exact hu
    · exact hu
  · intro u hu
    simp only [takeMarks_arrays]; exact hu
  · intro u hu
    rw [takeRecord_arrays]; exact hu
  · intro u hu
    unfold State.takeVoid; split
    · exact hu
    · exact hu
  · intro u hu
    unfold State.takeErase; split_ifs
    · exact beginBankErase_wf hu _
    · exact beginBankErase_wf hu _
    · exact hu

theorem wordEnded_wf {s : State} (h : s.arrays.wf = true) (w : WordOp) (p : Bool) :
    (s.wordEnded w p).arrays.wf = true := by
  unfold State.wordEnded
  split
  · split
    · exact take_wf (by rw [takeSlot_arrays]; exact h)
    · exact take_wf h
  · split
    · refine take_wf ?_
      unfold State.commitWordWritten; split
      · exact h
      · exact h
    · exact h
  · exact take_wf h
  · exact take_wf h
  · exact take_wf h
  · refine take_wf ?_
    unfold State.markEnded State.reportMark
    split_ifs <;> exact h
  · exact take_wf h

theorem attemptEnded_wf {s : State} (h : s.arrays.wf = true) (w : WordOp) (missed : Word) :
    (s.attemptEnded w missed).arrays.wf = true := by
  have hm : (s.arrays.setBank w.bank
      (nvProgram Config.bankWords (s.arrays.bank w.bank) w.address w.value missed)).wf = true :=
    Arrays.wf_setBank h _ (nvProgram_wf (Arrays.wf_bank h _) _ _ _)
  unfold State.attemptEnded
  simp only
  split
  · exact wordEnded_wf hm _ _
  · exact hm

theorem erasedBank_wf {m : Nv} (h : nvWf Config.bankWords m = true) (u : WordMasks) (missed : Word) :
    nvWf Config.bankWords (erasedBank m u missed) = true := by
  unfold erasedBank
  simp only
  split
  · exact nvErase_wf h u
  · exact nvProgram_wf (nvErase_wf h u) _ _ _

theorem bankEraseEnded_wf {s : State} (h : s.arrays.wf = true) (b : BankId) (u : WordMasks) (missed : Word) :
    (s.bankEraseEnded b u missed).arrays.wf = true :=
  take_wf (Arrays.wf_setBank h b (erasedBank_wf (Arrays.wf_bank h b) u missed))

theorem answerOwed_arrays (s : State) (owed : Bool) (r : Reply) : (s.answerOwed owed r).arrays = s.arrays := by
  unfold State.answerOwed; split <;> rfl

theorem programPulseEnded_wf {s : State} (h : s.arrays.wf = true) (i : Nat) (v : Word) (k : Nat) (owed : Bool)
    (missed : Word) : (s.programPulseEnded i v k owed missed).arrays.wf = true := by
  unfold State.programPulseEnded
  split
  · refine take_wf ?_
    rw [answerOwed_arrays]
    exact Arrays.wf_setup h (nvProgram_wf ((Arrays.wf_iff _).1 h).2.2 _ _ _)
  · exact take_wf h

theorem erasePulseEnded_wf {s : State} (h : s.arrays.wf = true) (k : Nat) (owed : Bool) (u : WordMasks) :
    (s.erasePulseEnded k owed u).arrays.wf = true := by
  unfold State.erasePulseEnded
  split
  · refine take_wf ?_
    rw [answerOwed_arrays]
    exact Arrays.wf_setup h (nvErase_wf ((Arrays.wf_iff _).1 h).2.2 _)
  · exact take_wf h

theorem cutOff_wf {m : Arrays} (h : m.wf = true) (op : Operation) (c : Cut) : (m.cutOff op c).wf = true := by
  unfold Arrays.cutOff
  split
  · exact h
  · refine Arrays.wf_setBank h _ ?_
    unfold cutWord
    split <;> exact nvProgram_wf (Arrays.wf_bank h _) _ _ _
  · refine Arrays.wf_setBank h _ ?_
    unfold cutErase
    split
    · exact nvWrite_wf (Arrays.wf_bank h _) (by decide) _
    · exact nvWrite_wf (nvErase_wf (Arrays.wf_bank h _) _) (by decide) _
  · split
    · exact Arrays.wf_setup h (nvProgram_wf ((Arrays.wf_iff _).1 h).2.2 _ _ _)
    · exact h
  · split
    · exact Arrays.wf_setup h (nvErase_wf ((Arrays.wf_iff _).1 h).2.2 _)
    · exact h

/-- A read after a word program was cut off (R134, log entry 36). -/
theorem nvRead_cutWord {m : Nv} (h : nvRising m) {w : WordOp} (ha : w.address < Config.bankWords) (c : Cut) (a : Nat) :
    nvRead (cutWord m w c) a =
      if a = w.address then
        (if w.purpose = .header ∧ c.headerDirty then 0 else nvRead m w.address &&& (w.value ||| c.bits))
      else nvRead m a := by
  unfold cutWord
  split <;> rw [nvRead_nvProgram h ha] <;> simp [programmedWord]

/-- A read after a bank erase was cut off (R134, log entry 26). -/
theorem nvRead_cutErase {m : Nv} (h : nvRising m) (oldHeader : Word) (c : Cut) (a : Nat) :
    nvRead (cutErase m oldHeader c) a =
      if a = 0 then (if c.condemning then oldHeader &&& c.bits else if c.headerErased then erasedWord else 0)
      else if c.condemning then nvRead m a
      else nvRead m a ||| ~~~(maskAt c.unset a) := by
  unfold cutErase
  split
  · rw [nvRead_nvWrite h]
    simp [programmedWord, *]
  · rw [nvRead_nvWrite (nvErase_rising h _)]
    simp [nvRead_nvErase h, *]

/-! ### The setup block -/

theorem takeErase_setup (s : State) : s.takeErase.arrays.setup = s.arrays.setup := by
  unfold State.takeErase State.beginBankErase
  split
  · simp [State.beginOp, Arrays.setBank]
  · split
    · simp [State.beginOp, Arrays.setBank]
    · rfl

theorem orTake_setup {t : State} {f : State → State} (h : ∀ u : State, (f u).arrays.setup = u.arrays.setup) :
    (t.orTake f).arrays.setup = t.arrays.setup := by
  unfold State.orTake; split; exact h _; rfl

/-- No operation the programmer takes writes the setup block as it begins. -/
@[simp] theorem State.take_setupArray (s : State) : s.take.arrays.setup = s.arrays.setup := by
  unfold State.take
  rw [orTake_setup takeErase_setup, orTake_setup (f := State.takeVoid), orTake_setup (f := State.takeRecord),
    orTake_setup (f := fun s => s.takeMarks s.programmer.marks), orTake_setup]
  · intro u; unfold State.takePulse; split <;> rfl
  · intro u; rw [takeMarks_arrays]
  · intro u; rw [takeRecord_arrays]
  · intro u; unfold State.takeVoid; split <;> rfl

end Sys2Proof.Machine
end

