-- ==== Sys2Proof/Laws/Orders.lean ====
section
/-!
SUPPORT. The ORDER body a station reads back, and what taking an order comes to.
-/

namespace Sys2Proof.Machine

/-- The low part of an append. -/
theorem extract_append_low {m n : Nat} (x : BitVec m) (y : BitVec n) : (x ++ y).extractLsb' 0 n = y := by
  apply BitVec.eq_of_getLsbD_eq
  intro i hi
  simp [BitVec.getLsbD_append, hi]

/-- A part of an append that lies in its high half. -/
theorem extract_append_high {m n : Nat} (x : BitVec m) (y : BitVec n) (k l : Nat) :
    (x ++ y).extractLsb' (n + k) l = x.extractLsb' k l := by
  apply BitVec.eq_of_getLsbD_eq
  intro i hi
  have h : ¬n + k + i < n := by omega
  have h' : n + k + i - n = k + i := by omega
  simp [BitVec.getLsbD_append, hi, h, h']

theorem extract_all {m : Nat} (x : BitVec m) : x.extractLsb' 0 m = x := by
  apply BitVec.eq_of_getLsbD_eq
  intro i hi
  simp [hi]

theorem framedBody_covered (c : BitVec 24) : (framedBody c).extractLsb' 8 24 = c :=
  (extract_append_high c _ 0 24).trans (extract_all c)

theorem framedBody_check (c : BitVec 24) : (framedBody c).extractLsb' 0 8 = crc8 (lineBits c) :=
  extract_append_low c _

@[simp] theorem orderBody_target (t : BitVec 5) (c : OrderCode) (a : Word) : orderTarget (orderBody t c a) = t :=
  (extract_append_high (t ++ orderBits c ++ a) _ 19 5).trans <|
    (extract_append_high (t ++ orderBits c) a 3 5).trans <|
      (extract_append_high t (orderBits c) 0 5).trans (extract_all t)

@[simp] theorem orderBody_code (t : BitVec 5) (c : OrderCode) (a : Word) : orderCode (orderBody t c a) = c := by
  have h : (orderBody t c a).extractLsb' 24 3 = orderBits c :=
    (extract_append_high (t ++ orderBits c ++ a) _ 16 3).trans <|
      (extract_append_high (t ++ orderBits c) a 0 3).trans (extract_append_low t (orderBits c))
  unfold orderCode
  rw [h]
  cases c <;> rfl

@[simp] theorem orderBody_argument (t : BitVec 5) (c : OrderCode) (a : Word) : orderArgument (orderBody t c a) = a :=
  (extract_append_high (t ++ orderBits c ++ a) _ 0 16).trans (extract_append_low _ a)

@[simp] theorem orderBody_check (t : BitVec 5) (c : OrderCode) (a : Word) :
    checkGood .order (orderBody t c a) = true := by
  show (crc8 (lineBits ((orderBody t c a).extractLsb' 8 24)) == (orderBody t c a).extractLsb' 0 8) = true
  unfold orderBody
  rw [framedBody_covered, framedBody_check]
  exact beq_self_eq_true _

/-- An order whose body names the station is taken exactly when the station is MEMBER (R139). -/
theorem State.takenOrder_orderBody (s : State) (b : Banner) (c : OrderCode) (a : Word) :
    s.takenOrder (s.orderRound b c a) = if s.membership.state = .member then some (c, a) else none := by
  simp [State.takenOrder, State.orderRound]

/-- The round end of a station whose offers the line has carried (R13). -/
theorem State.roundEnd_of_endsRound {s : State} {o : Offers} {r : Round} {out : OfferOutcome}
    (h : s.EndsRound o r out) (i : StartInputs) :
    s.roundEnd r i = if s.restarts r then s.started i else s.closeRound o r out := by
  obtain ⟨_, ha, hl, hr, hs⟩ := h
  simp [State.roundEnd, ha, hl, hr, hs]

/-- The end of an ORDER round to this station (R139, R140). -/
theorem State.orderToStation_of_takesOrder {s : State} {o : Offers} {out : OfferOutcome} {b : Banner} {c : OrderCode}
    {a : Word} (h : s.TakesOrder o out b c a) (i : StartInputs) (hc : c ≠ .restart ∨ s.lock ≠ .opened) :
    s.orderToStation b c a i
      = (((s.beforeOrders o (s.orderRound b c a) out).acceptOrder c a).handleOrder c a).afterOrders
          (s.orderRound b c a) := by
  obtain ⟨he, hm, _⟩ := h
  have ht := s.takenOrder_orderBody b c a
  rw [if_pos hm] at ht
  have hr : s.restarts (s.orderRound b c a) = false := by
    unfold State.restarts
    rw [ht]
    rcases hc with hc | hc
    · cases c <;> first | rfl | exact absurd rfl hc
    · cases c <;> first | rfl | simpa using hc
  show s.roundEnd (s.orderRound b c a) i = _
  rw [State.roundEnd_of_endsRound he, hr]
  simp only [Bool.false_eq_true, if_false, State.closeRound, ht, State.ordersRoundEnd]

end Sys2Proof.Machine
end

