-- ==== Sys2Proof/Laws/Departure.lean ====
section
/-!
SUPPORT. What a departure from JOINING or MEMBER does, block by block.
-/

namespace Sys2Proof.Machine

/-- What the Order Unit's dropping of answers leaves (R140, R174). -/
theorem State.dropAnswers_spec (s : State) :
    s.dropAnswers.powered = s.powered ∧ s.dropAnswers.pins = s.pins ∧ s.dropAnswers.line = s.line
      ∧ s.dropAnswers.membership = s.membership ∧ s.dropAnswers.sequencer = s.sequencer
      ∧ s.dropAnswers.monitors = s.monitors ∧ s.dropAnswers.ring = s.ring ∧ s.dropAnswers.engine = s.engine
      ∧ s.dropAnswers.staging = s.staging ∧ s.dropAnswers.store = s.store ∧ s.dropAnswers.arrays = s.arrays
      ∧ s.dropAnswers.lock = s.lock ∧ s.dropAnswers.rest = s.rest ∧ s.dropAnswers.pending = s.pending
      ∧ s.dropAnswers.orders = { s.orders with awaited := none }
      ∧ s.dropAnswers.setup = { s.setup with owed := .none }
      ∧ s.dropAnswers.programmer = s.programmer.forgetAnswers := by
  refine ⟨rfl, rfl, rfl, rfl, rfl, rfl, rfl, rfl, rfl, rfl, rfl, rfl, rfl, rfl, rfl, rfl, rfl⟩

/-- The engine and the slots after a departure (R73, R91, R106). -/
theorem State.engineDepart_engine (s : State) :
    s.engineDepart.engine.state = .idle ∧ s.engineDepart.engine.due = false
      ∧ s.engineDepart.engine.next = s.engine.next ∧ s.engineDepart.engine.exhausted = s.engine.exhausted
      ∧ (s.engine.state = .idle → s.engineDepart.engine = { s.engine with due := false }
          ∧ s.engineDepart.staging = s.staging) := by
  unfold State.engineDepart
  cases h : s.engine.state <;> simp [engineAbandoned, countMiss, h]

/-- A departure touches nothing of the supply, the line, the membership, the store, the arrays, the working copy, the
validation, the straps and the queue (R45, R61, R71, R73, R149, R178). -/
structure DepartKeeps (s t : State) : Prop where
  powered : t.powered = s.powered
  line : t.line = s.line
  membership : t.membership = s.membership
  store : t.store = s.store
  arrays : t.arrays = s.arrays
  settings : t.settings = s.settings
  setupFault : t.setup.fault = s.setup.fault
  validated : t.setup.validated = s.setup.validated
  straps : t.pins.straps = s.pins.straps
  pending : t.pending = s.pending
  holding : t.orders.holding = s.orders.holding

theorem DepartKeeps.refl (s : State) : DepartKeeps s s := by constructor <;> rfl

theorem engineDepart_keeps (s : State) : DepartKeeps s s.engineDepart := by
  unfold State.engineDepart
  split <;> constructor <;> rfl

theorem pinsDepart_straps (m : PinMode) (p : Pins) : (pinsDepart m p).straps = p.straps := by cases m <;> rfl

theorem depart_keeps (s : State) : DepartKeeps s s.depart := by
  have e := engineDepart_keeps (((s.setSequencer (sequencerDepart s.sequencer)).setMonitors
    (clearTripCounts s.monitors)).setRing [])
  unfold State.depart
  simp only
  split
  · constructor <;>
      simp [State.ordersDepart, State.dropAnswers, Orders.cleared, State.settings, pinsDepart_straps, e.powered, e.line,
        e.membership, e.store, e.arrays, e.setupFault, e.validated, e.straps, e.pending, e.holding]
    exact e.settings
  · constructor <;>
      simp [pinsDepart_straps, e.powered, e.line, e.membership, e.store, e.arrays, e.setupFault, e.validated, e.straps,
        e.pending, e.holding, e.settings]

@[simp] theorem State.depart_powered (s : State) : s.depart.powered = s.powered := (depart_keeps s).powered
@[simp] theorem State.depart_line (s : State) : s.depart.line = s.line := (depart_keeps s).line
@[simp] theorem State.depart_membership (s : State) : s.depart.membership = s.membership := (depart_keeps s).membership
@[simp] theorem State.depart_store (s : State) : s.depart.store = s.store := (depart_keeps s).store
@[simp] theorem State.depart_arrays (s : State) : s.depart.arrays = s.arrays := (depart_keeps s).arrays
@[simp] theorem State.depart_settings (s : State) : s.depart.settings = s.settings := (depart_keeps s).settings
@[simp] theorem State.depart_setupFault (s : State) : s.depart.setup.fault = s.setup.fault := (depart_keeps s).setupFault
@[simp] theorem State.depart_validated (s : State) : s.depart.setup.validated = s.setup.validated :=
  (depart_keeps s).validated
@[simp] theorem State.depart_straps (s : State) : s.depart.pins.straps = s.pins.straps := (depart_keeps s).straps
@[simp] theorem State.depart_pending (s : State) : s.depart.pending = s.pending := (depart_keeps s).pending
@[simp] theorem State.depart_holding (s : State) : s.depart.orders.holding = s.orders.holding := (depart_keeps s).holding

/-- The acquisition side after a departure (R45, R61, R71, R178). -/
theorem State.depart_acquisition (s : State) :
    s.depart.ring = [] ∧ s.depart.sequencer = sequencerDepart s.sequencer
      ∧ s.depart.monitors = clearTripCounts s.monitors ∧ s.depart.rest = { s.rest with count := 0 } := by
  have h : ∀ t : State, t.engineDepart.ring = t.ring ∧ t.engineDepart.sequencer = t.sequencer
      ∧ t.engineDepart.monitors = t.monitors ∧ t.engineDepart.rest = t.rest := by
    intro t; unfold State.engineDepart; split <;> exact ⟨rfl, rfl, rfl, rfl⟩
  obtain ⟨h1, h2, h3, h4⟩ := h (((s.setSequencer (sequencerDepart s.sequencer)).setMonitors
    (clearTripCounts s.monitors)).setRing [])
  unfold State.depart
  simp only
  split <;> simp [State.ordersDepart, State.dropAnswers, h1, h2, h3, h4]

/-- The engine after a departure (R73, R91). -/
theorem State.depart_engine (s : State) :
    s.depart.engine.state = .idle ∧ s.depart.engine.due = false ∧ s.depart.engine.next = s.engine.next
      ∧ s.depart.engine.exhausted = s.engine.exhausted
      ∧ s.depart.engine
          = (if s.engine.state = .capturing then { engineAbandoned s.engine with due := false }
              else { s.engine with due := false }) := by
  have h := State.engineDepart_engine (((s.setSequencer (sequencerDepart s.sequencer)).setMonitors
    (clearTripCounts s.monitors)).setRing [])
  have h' : (((s.setSequencer (sequencerDepart s.sequencer)).setMonitors
    (clearTripCounts s.monitors)).setRing []).engineDepart.engine = (if s.engine.state = .capturing then
      { engineAbandoned s.engine with due := false } else { s.engine with due := false }) := by
    unfold State.engineDepart
    cases hs : s.engine.state <;> simp [hs]
  have hd : s.depart.engine = (((s.setSequencer (sequencerDepart s.sequencer)).setMonitors
    (clearTripCounts s.monitors)).setRing []).engineDepart.engine := by
    unfold State.depart
    simp only
    split <;> simp [State.ordersDepart, State.dropAnswers]
  rw [hd]
  exact ⟨h.1, h.2.1, h.2.2.1, h.2.2.2.1, h'⟩

/-- The Order Unit and the lock after a departure from MEMBER (R149, R163, R174). -/
theorem State.depart_orders_member {s : State} (h : s.membership.state = .member) :
    s.depart.lock = .locked ∧ s.depart.orders.outbox = none ∧ s.depart.orders.stream = none
      ∧ s.depart.orders.awaited = none ∧ s.depart.orders.read = .none ∧ s.depart.orders.openTimer = 0
      ∧ s.depart.programmer = s.programmer.forgetAnswers := by
  have hp : ∀ t : State, t.engineDepart.programmer = t.programmer := by
    intro t; unfold State.engineDepart; split <;> rfl
  unfold State.depart
  simp [h, State.ordersDepart, State.dropAnswers, Orders.cleared, hp]

/-- The Order Unit, the lock and the programmer stand after a departure from JOINING. -/
theorem State.depart_orders_joining {s : State} (h : s.membership.state ≠ .member) :
    s.depart.lock = s.lock ∧ s.depart.orders = s.orders ∧ s.depart.programmer = s.programmer
      ∧ s.depart.setup = s.setup := by
  have hp : ∀ t : State, t.engineDepart.programmer = t.programmer ∧ t.engineDepart.lock = t.lock
      ∧ t.engineDepart.orders = t.orders ∧ t.engineDepart.setup = t.setup := by
    intro t; unfold State.engineDepart; split <;> exact ⟨rfl, rfl, rfl, rfl⟩
  obtain ⟨h1, h2, h3, h4⟩ := hp (((s.setSequencer (sequencerDepart s.sequencer)).setMonitors
    (clearTripCounts s.monitors)).setRing [])
  unfold State.depart
  simp [h, h1, h2, h3, h4]

/-- What clearing the trip counts leaves (R61). -/
theorem clearTripCounts_spec (ms : Monitors) :
    (clearTripCounts ms).alertPending = ms.alertPending
      ∧ ∀ i : Fin 8, (clearTripCounts ms).inputs[i] = { ms.inputs[i] with count := 0 } :=
  ⟨rfl, fun i => by simp [clearTripCounts]⟩

/-- What emptying the trip set leaves (R60). -/
theorem clearTrips_spec (ms : Monitors) :
    (clearTrips ms).alertPending = false
      ∧ ∀ i : Fin 8, (clearTrips ms).inputs[i] = { ms.inputs[i] with tripped := false } :=
  ⟨rfl, fun i => by simp [clearTrips]⟩

end Sys2Proof.Machine
end

