-- ==== Sys2Proof/Laws/Lookups.lean ====
section
/-!
SUPPORT. What the lookups answer: a record's state and its incident numbers, a bank's classification, store order and the
first record of it, the lowest input tripped, the slots of the staging queue.
-/

namespace Sys2Proof.Machine

/-! ### Record states and headers -/

/-- COMPLETE by its bits (R119). -/
theorem recordState_complete_iff (w : Word) : recordState w = .complete
    ↔ w.getLsbD 0 = false ∧ w.getLsbD 3 = true ∧ w.getLsbD 1 = false ∧ w.getLsbD 2 = true := by
  by_cases h : w = 0xFFFF
  · subst h; decide
  · unfold recordState erasedWord
    rw [if_neg h]
    cases w.getLsbD 0 <;> cases w.getLsbD 1 <;> cases w.getLsbD 2 <;> cases w.getLsbD 3 <;> simp

/-- An array in its canonical form that reads erased everywhere lists nothing. -/
theorem nv_eq_nil_of_erased {size : Nat} {m : Nv} (h : nvWf size m = true)
    (he : ∀ a, a < size → nvRead m a = erasedWord) : m = [] := by
  cases m with
  | nil => rfl
  | cons c m =>
    obtain ⟨b, w⟩ := c
    have hc := ((nvWf_iff _ _).1 h).2 (b, w) (by simp)
    have := he b hc.1
    simp only [nvRead, if_true] at this
    exact absurd this hc.2

theorem classifyBank_fresh_iff {size : Nat} {m : Nv} (h : nvWf size m = true) :
    classifyBank m = .fresh ↔ ∀ a, a < size → nvRead m a = erasedWord := by
  constructor
  · intro hf a _
    unfold classifyBank at hf
    split at hf
    · rename_i hm; subst hm; rfl
    · split at hf <;> cases hf
  · intro he
    rw [nv_eq_nil_of_erased h he]
    rfl

theorem classifyBank_sequence_iff (m : Nv) (v : Word) :
    classifyBank m = .sequence v ↔ nvRead m 0 = v ∧ v ≠ 0 ∧ v ≠ erasedWord := by
  unfold classifyBank
  split
  · rename_i hm
    subst hm
    refine ⟨nofun, ?_⟩
    rintro ⟨rfl, _, h⟩
    exact absurd rfl h
  · split
    · rename_i ho
      refine ⟨nofun, ?_⟩
      rintro ⟨rfl, h0, h1⟩
      exact (ho.elim h1 h0).elim
    · rename_i ho
      constructor
      · intro he
        cases he
        exact ⟨rfl, fun h => ho (.inr h), fun h => ho (.inl h)⟩
      · rintro ⟨rfl, _⟩
        rfl

/-! ### Incident numbers (R138) -/

theorem mem_mergeNumbers (m : Nv) (x : Extent) (w : Word) :
    w ∈ mergeNumbers m x ↔ ((nvRead m (x.position + 6)).extractLsb' 5 3).toNat ≤ 4
      ∧ 10 + ((nvRead m (x.position + 6)).extractLsb' 5 3).toNat ≤ x.length
      ∧ ∃ i, i < ((nvRead m (x.position + 6)).extractLsb' 5 3).toNat ∧ w = nvRead m (x.position + 10 + i) := by
  unfold mergeNumbers
  generalize ((nvRead m (x.position + 6)).extractLsb' 5 3).toNat = count
  simp only [Config.maxMerges]
  by_cases hc : count ≤ 4 ∧ 10 + count ≤ x.length
  · simp [hc, eq_comm]
  · simp only [hc, if_false, List.not_mem_nil, false_iff]
    rintro ⟨h1, h2, _⟩
    exact hc ⟨h1, h2⟩

theorem mem_recordNumbers (m : Nv) (x : Extent) (k : Nat) :
    k ∈ recordNumbers m x
      ↔ ∃ w : Word, w.toNat = k ∧ w ≠ erasedWord ∧ (w = extentPrimary m x ∨ w ∈ mergeNumbers m x) := by
  simp only [recordNumbers, List.mem_map, List.mem_filter, List.mem_cons, bne_iff_ne]
  constructor
  · rintro ⟨w, ⟨hw, hne⟩, hk⟩
    exact ⟨w, hk, hne, hw⟩
  · rintro ⟨w, hk, hne, hw⟩
    exact ⟨w, ⟨hw, hne⟩, hk⟩

/-! ### Store order (R116, R120, R130) -/

theorem sequenceSuccessor_twice_ne (v : Word) : sequenceSuccessor (sequenceSuccessor v) ≠ v := by
  unfold sequenceSuccessor
  intro h
  split at h <;> split at h <;> bv_omega

/-- With no OPEN bank whose header is unwritten, the newer bank goes by the sequence values (R116). -/
theorem newerBank_eq_bySequence {t : Store} {m : Arrays}
    (h0 : ¬(t.bank0.state = .opened ∧ nvRead m.bank0 0 = erasedWord))
    (h1 : ¬(t.bank1.state = .opened ∧ nvRead m.bank1 0 = erasedWord)) :
    newerBank t m = newerBySequence (nvRead m.bank0 0) (nvRead m.bank1 0) :=
  (if_neg h0).trans (if_neg h1)

theorem newerBySequence_of_successor (v : Word) :
    newerBySequence v (sequenceSuccessor v) = .bank1 ∧ newerBySequence (sequenceSuccessor v) v = .bank0 :=
  ⟨if_pos rfl, (if_neg fun h => sequenceSuccessor_twice_ne v h.symm).trans (if_pos rfl)⟩

/-- The record found by number is the first of store order that carries it (R130). -/
theorem findByNumber_eq_some_iff (t : Store) (m : Arrays) (n : Word) (y : BankId × Extent) :
    findByNumber t m n = some y ↔ extentPrimary (m.bank y.1) y.2 = n
      ∧ ∃ before after, storeOrder t m = before ++ y :: after ∧ ∀ z ∈ before, extentPrimary (m.bank z.1) z.2 ≠ n := by
  simp [findByNumber, List.find?_eq_some_iff_append]

/-- The oldest unread record is the first COMPLETE one of store order (R130). -/
theorem oldestUnread_eq_some_iff (t : Store) (m : Arrays) (y : BankId × Extent) :
    oldestUnread t m = some y ↔ extentState (m.bank y.1) y.2 = .complete
      ∧ ∃ before after, storeOrder t m = before ++ y :: after
        ∧ ∀ z ∈ before, extentState (m.bank z.1) z.2 ≠ .complete := by
  simp [oldestUnread, List.find?_eq_some_iff_append]

/-! ### The trip set and the staging queue -/

/-- The lowest input of the trip set (R63). -/
theorem lowestTripped_eq_some_iff (ms : Monitors) (i : Fin 8) :
    lowestTripped ms = some i.val
      ↔ ms.inputs[i].tripped = true ∧ ∀ j : Fin 8, j < i → ms.inputs[j].tripped = false := by
  have hl : ms.inputs.toList.length = 8 := by simp
  simp only [lowestTripped, List.findIdx?_eq_some_iff_getElem]
  constructor
  · rintro ⟨_, h2, h3⟩
    exact ⟨by simpa using h2, fun j hj => by simpa using h3 j.val hj⟩
  · rintro ⟨h1, h2⟩
    exact ⟨by omega, by simpa using h1, fun j hj => by simpa using h2 ⟨j, by omega⟩ hj⟩

/-- The head slot is the first of the hand-over order, and READY (R108). -/
theorem head_eq_some_iff (q : Staging) (i : SlotId) (n : Word) (w : List Word) :
    q.head = some (i, n, w) ↔ (∃ rest, q.handOver = i :: rest) ∧ q.slot i = .ready n w := by
  unfold Staging.head
  cases h : q.handOver with
  | nil => simp
  | cons a l =>
    by_cases ha : a = i
    · subst ha
      cases h2 : q.slot a <;> simp [h2]
    · cases h2 : q.slot a <;> simp [h2, ha]

/-- The FILLING slot is the first that holds a record under construction. -/
theorem fillingSlot_eq_some_iff (q : Staging) (i : SlotId) (c : Construction) :
    q.fillingSlot = some (i, c) ↔ q.slot i = .filling c ∧ (i = .slot1 → ∀ d, q.slot0 ≠ .filling d) := by
  obtain ⟨a, b, l⟩ := q
  cases i <;> cases a <;> cases b <;> simp [Staging.fillingSlot, Staging.slot]

end Sys2Proof.Machine
end

