-- ==== Sys2Proof/Laws/Rounds.lean ====
section
/-!
SUPPORT. What a round end does: the reactions before the Order Unit's, block by block, the Rest Controller's while the
station stays awake, and the round end as a whole.
-/

namespace Sys2Proof.Machine

/-! ### What the reactions before the Order Unit's leave as it was -/

/-- The supply, the store, the arrays, the programmer, the Order Unit, the lock, the setup, the queue, the straps and the
number are the same in two states. -/
structure RoundKeeps (s t : State) : Prop where
  powered : t.powered = s.powered
  store : t.store = s.store
  arrays : t.arrays = s.arrays
  programmer : t.programmer = s.programmer
  orders : t.orders = s.orders
  lock : t.lock = s.lock
  setup : t.setup = s.setup
  pending : t.pending = s.pending
  straps : t.pins.straps = s.pins.straps
  number : t.membership.number = s.membership.number

theorem RoundKeeps.refl (s : State) : RoundKeeps s s := by constructor <;> rfl

theorem RoundKeeps.trans {s t u : State} (h : RoundKeeps s t) (g : RoundKeeps t u) : RoundKeeps s u :=
  ⟨g.powered.trans h.powered, g.store.trans h.store, g.arrays.trans h.arrays, g.programmer.trans h.programmer,
    g.orders.trans h.orders, g.lock.trans h.lock, g.setup.trans h.setup, g.pending.trans h.pending,
    g.straps.trans h.straps, g.number.trans h.number⟩

theorem RoundKeeps.settings {s t : State} (h : RoundKeeps s t) : t.settings = s.settings :=
  congrArg Setup.working h.setup

theorem completePass_keeps (s : State) : RoundKeeps s s.completePass := by
  unfold State.completePass
  split <;> constructor <;> rfl

theorem lineRoundEnd_keeps (s : State) : RoundKeeps s s.lineRoundEnd := by constructor <;> rfl

theorem ringRoundEnd_keeps (s : State) (r : Round) : RoundKeeps s (s.ringRoundEnd r) := by
  unfold State.ringRoundEnd
  split <;> constructor <;> rfl

theorem withdraw_keeps {s : State} (h : s.membership.state ≠ .member) (c : Cause) : RoundKeeps s (s.withdraw c) := by
  obtain ⟨h1, h2, h3, h4⟩ := State.depart_orders_joining h
  constructor <;> simp [State.withdraw, h1, h2, h3, h4]

theorem membershipRoundEnd_keeps (s : State) (o : Offers) (r : Round) (out : OfferOutcome) :
    RoundKeeps s (s.membershipRoundEnd o r out) := by
  unfold State.membershipRoundEnd
  split
  · next h _ =>
    split
    · exact withdraw_keeps (by rw [h]; decide) _
    · constructor <;> rfl
    · split <;> constructor <;> rfl
  · split
    · constructor <;> rfl
    · constructor <;> first | rfl | (simp only [Membership.countRoll]; split <;> rfl)

theorem settleIdle_keeps (s : State) (g : Agreement) (n : RoundCount) (cl : Bool) : RoundKeeps s (s.settleIdle g n cl) := by
  unfold State.settleIdle
  split
  · constructor <;> rfl
  · split
    · split <;> constructor <;> rfl
    · constructor <;> rfl

theorem settleIncident_keeps (s : State) (g : Agreement) (n : RoundCount) (cl : Bool) :
    RoundKeeps s (s.settleIncident g n cl) := by
  have h : RoundKeeps s (s.setMonitors (clearTrips s.monitors)) := by constructor <;> rfl
  unfold State.settleIncident
  simp only
  split
  · exact h.trans (settleIdle_keeps _ g n cl)
  · constructor <;> rfl

theorem endCapture_keeps (s : State) : RoundKeeps s s.endCapture := by constructor <;> rfl

theorem engineRoundEnd_keeps (s : State) (o : Offers) (r : Round) (m : Bool) (n : RoundCount) :
    RoundKeeps s (s.engineRoundEnd o r m n) := by
  unfold State.engineRoundEnd
  simp only
  have h1 : ∀ t : State, RoundKeeps t (if (r.kind == .incident) = true then
      t.setEngine { t.engine with next := nextAfter t.engine.next (readAgreement r.body).number } else t) := by
    intro t; split <;> constructor <;> rfl
  have h2 : ∀ t : State, RoundKeeps t (if o.captureRound = true then t.setEngine (countCaptureRound t.engine) else t) := by
    intro t; split <;> constructor <;> rfl
  have h3 : ∀ t : State, RoundKeeps t (if (r.kind == .incident && m) = true then
      t.settleIncident (readAgreement r.body) n o.claims else t) := by
    intro t; split
    · exact settleIncident_keeps _ _ _ _
    · exact RoundKeeps.refl t
  have h4 : ∀ t : State, RoundKeeps t (if (o.captureRound && t.engine.state == .capturing && t.engine.remaining == 0) = true
      then t.endCapture else t) := by
    intro t; split
    · exact endCapture_keeps _
    · exact RoundKeeps.refl t
  exact (((h1 s).trans (h2 _)).trans (h3 _)).trans (h4 _)

theorem pinsRoundEnd_straps (m : PinMode) (a b : Bool) (c : IncidentState) (p : Pins) :
    (pinsRoundEnd m a b c p).straps = p.straps := by
  cases m <;> cases a <;> rfl

theorem pinsAfterRound_keeps (s : State) (r : Round) (w : IncidentState) : RoundKeeps s (s.pinsAfterRound r w) := by
  constructor <;> first | rfl | exact pinsRoundEnd_straps _ _ _ _ _

theorem dueRoundEnd_keeps (s : State) (a : Bool) : RoundKeeps s (s.dueRoundEnd a) := by constructor <;> rfl

/-- What the reactions before the Order Unit's leave as it was (R13). -/
theorem beforeOrders_keeps (s : State) (o : Offers) (r : Round) (out : OfferOutcome) :
    RoundKeeps s (s.beforeOrders o r out) := by
  unfold State.beforeOrders
  exact (((((completePass_keeps s).trans (lineRoundEnd_keeps _)).trans (ringRoundEnd_keeps _ r)).trans
    (membershipRoundEnd_keeps _ o r out)).trans (engineRoundEnd_keeps _ o r _ _)).trans
    ((pinsAfterRound_keeps _ r _).trans (dueRoundEnd_keeps _ _))

@[simp] theorem State.beforeOrders_powered (s : State) (o : Offers) (r : Round) (out : OfferOutcome) :
    (s.beforeOrders o r out).powered = s.powered := (beforeOrders_keeps s o r out).powered
@[simp] theorem State.beforeOrders_store (s : State) (o : Offers) (r : Round) (out : OfferOutcome) :
    (s.beforeOrders o r out).store = s.store := (beforeOrders_keeps s o r out).store
@[simp] theorem State.beforeOrders_arrays (s : State) (o : Offers) (r : Round) (out : OfferOutcome) :
    (s.beforeOrders o r out).arrays = s.arrays := (beforeOrders_keeps s o r out).arrays
@[simp] theorem State.beforeOrders_programmer (s : State) (o : Offers) (r : Round) (out : OfferOutcome) :
    (s.beforeOrders o r out).programmer = s.programmer := (beforeOrders_keeps s o r out).programmer
@[simp] theorem State.beforeOrders_orders (s : State) (o : Offers) (r : Round) (out : OfferOutcome) :
    (s.beforeOrders o r out).orders = s.orders := (beforeOrders_keeps s o r out).orders
@[simp] theorem State.beforeOrders_lock (s : State) (o : Offers) (r : Round) (out : OfferOutcome) :
    (s.beforeOrders o r out).lock = s.lock := (beforeOrders_keeps s o r out).lock
@[simp] theorem State.beforeOrders_setup (s : State) (o : Offers) (r : Round) (out : OfferOutcome) :
    (s.beforeOrders o r out).setup = s.setup := (beforeOrders_keeps s o r out).setup
@[simp] theorem State.beforeOrders_settings (s : State) (o : Offers) (r : Round) (out : OfferOutcome) :
    (s.beforeOrders o r out).settings = s.settings := (beforeOrders_keeps s o r out).settings
@[simp] theorem State.beforeOrders_pending (s : State) (o : Offers) (r : Round) (out : OfferOutcome) :
    (s.beforeOrders o r out).pending = s.pending := (beforeOrders_keeps s o r out).pending
@[simp] theorem State.beforeOrders_number (s : State) (o : Offers) (r : Round) (out : OfferOutcome) :
    (s.beforeOrders o r out).membership.number = s.membership.number := (beforeOrders_keeps s o r out).number

/-! ### The membership and the line past a round end -/

/-- What an engine's reaction leaves of the membership, the line and the rest. -/
structure EngineKeeps (s t : State) : Prop where
  membership : t.membership = s.membership
  line : t.line = s.line
  ring : t.ring = s.ring
  rest : t.rest = s.rest
  pins : t.pins = s.pins

theorem EngineKeeps.refl (s : State) : EngineKeeps s s := by constructor <;> rfl

theorem EngineKeeps.trans {s t u : State} (h : EngineKeeps s t) (g : EngineKeeps t u) : EngineKeeps s u :=
  ⟨g.membership.trans h.membership, g.line.trans h.line, g.ring.trans h.ring, g.rest.trans h.rest, g.pins.trans h.pins⟩

theorem settleIncident_engineKeeps (s : State) (g : Agreement) (n : RoundCount) (cl : Bool) :
    EngineKeeps s (s.settleIncident g n cl) := by
  unfold State.settleIncident State.settleIdle
  simp only
  split
  · split
    · constructor <;> rfl
    · split
      · split <;> constructor <;> rfl
      · constructor <;> rfl
  · constructor <;> rfl

theorem engineRoundEnd_engineKeeps (s : State) (o : Offers) (r : Round) (m : Bool) (n : RoundCount) :
    EngineKeeps s (s.engineRoundEnd o r m n) := by
  unfold State.engineRoundEnd
  simp only
  have h1 : ∀ t : State, EngineKeeps t (if (r.kind == .incident) = true then
      t.setEngine { t.engine with next := nextAfter t.engine.next (readAgreement r.body).number } else t) := by
    intro t; split <;> constructor <;> rfl
  have h2 : ∀ t : State, EngineKeeps t (if o.captureRound = true then t.setEngine (countCaptureRound t.engine) else t) := by
    intro t; split <;> constructor <;> rfl
  have h3 : ∀ t : State, EngineKeeps t (if (r.kind == .incident && m) = true then
      t.settleIncident (readAgreement r.body) n o.claims else t) := by
    intro t; split
    · exact settleIncident_engineKeeps _ _ _ _
    · exact EngineKeeps.refl t
  have h4 : ∀ t : State, EngineKeeps t (if (o.captureRound && t.engine.state == .capturing && t.engine.remaining == 0) = true
      then t.endCapture else t) := by
    intro t; split <;> constructor <;> rfl
  exact (((h1 s).trans (h2 _)).trans (h3 _)).trans (h4 _)

/-- The state in which the Incident Engine reacts to a round end. -/
def State.beforeEngine (s : State) (o : Offers) (r : Round) (out : OfferOutcome) : State :=
  (s.completePass.lineRoundEnd.ringRoundEnd r).membershipRoundEnd o r out

theorem State.beforeOrders_eq (s : State) (o : Offers) (r : Round) (out : OfferOutcome) :
    s.beforeOrders o r out
      = (((s.beforeEngine o r out).engineRoundEnd o r ((s.beforeEngine o r out).membership.state == .member)
          s.line.count).pinsAfterRound r s.engine.state).dueRoundEnd r.banner.alert := rfl

/-- The membership, the line, the ring and the rest after the reactions before the Order Unit's are what they are before
the engine's. -/
theorem State.beforeOrders_engineSide (s : State) (o : Offers) (r : Round) (out : OfferOutcome) :
    (s.beforeOrders o r out).membership = (s.beforeEngine o r out).membership
      ∧ (s.beforeOrders o r out).line = (s.beforeEngine o r out).line
      ∧ (s.beforeOrders o r out).ring = (s.beforeEngine o r out).ring
      ∧ (s.beforeOrders o r out).rest = (s.beforeEngine o r out).rest := by
  have h := engineRoundEnd_engineKeeps (s.beforeEngine o r out) o r
    ((s.beforeEngine o r out).membership.state == .member) s.line.count
  rw [State.beforeOrders_eq]
  exact ⟨h.membership, h.line, h.ring, h.rest⟩

/-- The membership after the round end of a station (R28, R29, R37, R39, R40). -/
def Membership.afterRound (m : Membership) (period : Nat) (o : Offers) (r : Round) (out : OfferOutcome) : Membership :=
  match m.state, o.kind with
  | .joining, .probe _ =>
    match probeResult r out with
    | .duplicate => { m with state := .withdrawn, cause := .duplicate }
    | .admitted => m.becomeMember
    | .stay => if r.kind = .roll then m.rolled r.body else m
  | _, _ => if r.kind = .roll then m.rolled r.body else m.countRoll period

theorem State.completePass_side (s : State) :
    s.completePass.membership = s.membership ∧ s.completePass.settings = s.settings ∧ s.completePass.line = s.line
      ∧ s.completePass.engine = s.engine ∧ s.completePass.monitors = s.monitors ∧ s.completePass.staging = s.staging
      ∧ s.completePass.pins = s.pins ∧ s.completePass.rest = s.rest := by
  unfold State.completePass
  split <;> exact ⟨rfl, rfl, rfl, rfl, rfl, rfl, rfl, rfl⟩

theorem State.ringRoundEnd_side (s : State) (r : Round) :
    (s.ringRoundEnd r).membership = s.membership ∧ (s.ringRoundEnd r).settings = s.settings
      ∧ (s.ringRoundEnd r).line = s.line ∧ (s.ringRoundEnd r).engine = s.engine
      ∧ (s.ringRoundEnd r).monitors = s.monitors ∧ (s.ringRoundEnd r).staging = s.staging
      ∧ (s.ringRoundEnd r).pins = s.pins ∧ (s.ringRoundEnd r).rest = s.rest
      ∧ (s.ringRoundEnd r).sequencer = s.sequencer := by
  unfold State.ringRoundEnd
  split <;> exact ⟨rfl, rfl, rfl, rfl, rfl, rfl, rfl, rfl, rfl⟩

/-- The membership after the reactions before the Order Unit's. -/
theorem State.beforeOrders_membership (s : State) (o : Offers) (r : Round) (out : OfferOutcome) :
    (s.beforeOrders o r out).membership = s.membership.afterRound s.settings.rollPeriod o r out := by
  rw [(s.beforeOrders_engineSide o r out).1]
  obtain ⟨a1, a2, -⟩ := s.completePass_side
  obtain ⟨b1, b2, -⟩ := s.completePass.lineRoundEnd.ringRoundEnd_side r
  have c1 : (s.completePass.lineRoundEnd.ringRoundEnd r).membership = s.membership := b1.trans a1
  have c2 : (s.completePass.lineRoundEnd.ringRoundEnd r).settings = s.settings := b2.trans a2
  unfold State.beforeEngine State.membershipRoundEnd Membership.afterRound
  rw [c1, c2]
  cases s.membership.state <;> cases o.kind <;> cases probeResult r out <;> simp only [] <;>
    first
    | rfl
    | exact c1
    | (split <;> first | rfl | exact c1)
    | simp [State.withdraw, c1]

/-- The line after the reactions before the Order Unit's: the count of the round that has ended, no offers, and still ALIGNED
unless the station withdrew (R5, R13, R21). -/
theorem State.beforeOrders_line (s : State) (o : Offers) (r : Round) (out : OfferOutcome) :
    (s.beforeOrders o r out).line.count = s.line.count ∧ (s.beforeOrders o r out).line.round = none
      ∧ ((s.beforeOrders o r out).membership.state ≠ .withdrawn →
          (s.beforeOrders o r out).line = { s.line with
            round := none, burstPoints := 0, position := 0, phase := .q1, phaseTime := 0 })
      ∧ ((s.beforeOrders o r out).membership.state = .withdrawn → s.onLine = true →
          (s.beforeOrders o r out).line.align = .seeking) := by
  obtain ⟨e1, e2, -⟩ := s.beforeOrders_engineSide o r out
  rw [e1, e2]
  obtain ⟨a1, _, a3, -⟩ := s.completePass_side
  obtain ⟨b1, _, b3, -⟩ := s.completePass.lineRoundEnd.ringRoundEnd_side r
  have c1 : (s.completePass.lineRoundEnd.ringRoundEnd r).membership = s.membership := b1.trans a1
  have c3 : (s.completePass.lineRoundEnd.ringRoundEnd r).line = { s.line with
            round := none, burstPoints := 0, position := 0, phase := .q1, phaseTime := 0 } := by
    rw [b3]; simp [State.lineRoundEnd, a3]
  unfold State.beforeEngine State.membershipRoundEnd
  rw [c1]
  split
  · next hj _ =>
    split
    · simp [State.withdraw, Line.inactive, c1, c3]
    · simp [c3, Membership.becomeMember]
    · split
      · simp [c3, Membership.rolled, hj]
      · simp [c3, c1, hj]
  · split
    · simp [c3, Membership.rolled]
      intro h ho; simp [State.onLine, h] at ho
    · simp [c3, Membership.countRoll]
      intro h ho
      have : s.membership.state = .withdrawn := by
        revert h; split <;> intro h <;> simpa using h
      simp [State.onLine, this] at ho

@[simp] theorem State.beforeOrders_count (s : State) (o : Offers) (r : Round) (out : OfferOutcome) :
    (s.beforeOrders o r out).line.count = s.line.count := (s.beforeOrders_line o r out).1
@[simp] theorem State.beforeOrders_round (s : State) (o : Offers) (r : Round) (out : OfferOutcome) :
    (s.beforeOrders o r out).line.round = none := (s.beforeOrders_line o r out).2.1

/-! ### The engine at a round end -/

theorem mergeAndExtend_next (g : Agreement) (e : Engine) : (mergeAndExtend g e).next = e.next := by
  unfold mergeAndExtend extendCapture mergeIncident
  simp only
  split
  · rfl
  · split <;> rfl

/-- Settling an incident leaves the monitors to the clearing of trips before it (R60). -/
theorem settleIdle_monitors (s : State) (g : Agreement) (n : RoundCount) (cl : Bool) :
    (s.settleIdle g n cl).monitors = s.monitors := by
  unfold State.settleIdle
  split
  · rfl
  · split
    · split <;> rfl
    · rfl

theorem settleIncident_next (s : State) (g : Agreement) (n : RoundCount) (cl : Bool) :
    (s.settleIncident g n cl).engine.next = s.engine.next := by
  unfold State.settleIncident State.settleIdle
  simp only
  split
  · split
    · rfl
    · split
      · split <;> rfl
      · rfl
  · exact mergeAndExtend_next g s.engine

/-- NEXT after the engine's reaction (R79, R80). -/
theorem engineRoundEnd_next (s : State) (o : Offers) (r : Round) (m : Bool) (n : RoundCount) :
    (s.engineRoundEnd o r m n).engine.next
      = if r.kind = .incident then nextAfter s.engine.next (incidentNumber r.body) else s.engine.next := by
  unfold State.engineRoundEnd
  simp only
  have h2 : ∀ t : State, (if o.captureRound = true then t.setEngine (countCaptureRound t.engine) else t).engine.next
      = t.engine.next := by
    intro t; split <;> rfl
  have h3 : ∀ t : State, (if (r.kind == .incident && m) = true then
      t.settleIncident (readAgreement r.body) n o.claims else t).engine.next = t.engine.next := by
    intro t; split
    · exact settleIncident_next _ _ _ _
    · rfl
  have h4 : ∀ t : State, (if (o.captureRound && t.engine.state == .capturing && t.engine.remaining == 0) = true
      then t.endCapture else t).engine.next = t.engine.next := by
    intro t; split <;> rfl
  rw [h4, h3, h2]
  by_cases h : r.kind = .incident <;> simp [h, readAgreement]

/-- The engine before its reaction to a round end is the one before the round end, unless the station withdrew. -/
theorem State.beforeEngine_side (s : State) (o : Offers) (r : Round) (out : OfferOutcome)
    (h : s.membership.state = .joining → probeResult r out ≠ .duplicate) :
    (s.beforeEngine o r out).engine = s.engine ∧ (s.beforeEngine o r out).staging = s.staging
      ∧ (s.beforeEngine o r out).monitors = s.monitors ∧ (s.beforeEngine o r out).pins = s.pins
      ∧ (s.beforeEngine o r out).rest = s.rest ∧ (s.beforeEngine o r out).sequencer = s.completePass.sequencer
      ∧ (s.beforeEngine o r out).ring = (s.completePass.lineRoundEnd.ringRoundEnd r).ring := by
  obtain ⟨a1, a2, a3, a4, a5, a6, a7, a8⟩ := s.completePass_side
  obtain ⟨b1, b2, b3, b4, b5, b6, b7, b8, b9⟩ := s.completePass.lineRoundEnd.ringRoundEnd_side r
  have hs : ∀ m : Membership, ∀ t : State, t = (s.completePass.lineRoundEnd.ringRoundEnd r).setMembership m →
      t.engine = s.engine ∧ t.staging = s.staging ∧ t.monitors = s.monitors ∧ t.pins = s.pins ∧ t.rest = s.rest
        ∧ t.sequencer = s.completePass.sequencer
        ∧ t.ring = (s.completePass.lineRoundEnd.ringRoundEnd r).ring := by
    rintro m t rfl
    exact ⟨b4.trans a4, b6.trans a6, b5.trans a5, b7.trans a7, b8.trans a8, b9, rfl⟩
  unfold State.beforeEngine State.membershipRoundEnd
  split
  · next hj _ =>
    split
    · next hd => exact absurd hd (h (by rw [← a1]; exact b1 ▸ hj))
    · exact hs _ _ rfl
    · split
      · exact hs _ _ rfl
      · exact hs (s.completePass.lineRoundEnd.ringRoundEnd r).membership _ rfl
  · split <;> exact hs _ _ rfl

/-- NEXT after the reactions before the Order Unit's. -/
theorem State.beforeOrders_next (s : State) (o : Offers) (r : Round) (out : OfferOutcome) :
    (s.beforeOrders o r out).engine.next
      = if r.kind = .incident then nextAfter s.engine.next (incidentNumber r.body) else s.engine.next := by
  have hm : (s.beforeEngine o r out).engine.next = s.engine.next := by
    by_cases hd : probeResult r out = .duplicate
    · have he : (s.completePass.lineRoundEnd.ringRoundEnd r).engine = s.engine :=
        (s.completePass.lineRoundEnd.ringRoundEnd_side r).2.2.2.1.trans s.completePass_side.2.2.2.1
      unfold State.beforeEngine State.membershipRoundEnd
      rw [hd]
      split
      · exact (State.depart_engine _).2.2.1.trans (congrArg Engine.next he)
      · split <;> exact congrArg Engine.next he
    · exact congrArg Engine.next (s.beforeEngine_side o r out fun _ => hd).1
  rw [← hm]
  exact engineRoundEnd_next _ o r _ _

/-! ### The Order Unit and the Rest Controller at a round end -/

/-! The round count moving on touches nothing else. -/

@[simp] theorem State.advanceCount_powered (s : State) (r : Round) : (s.advanceCount r).powered = s.powered := rfl
@[simp] theorem State.advanceCount_engine (s : State) (r : Round) : (s.advanceCount r).engine = s.engine := rfl
@[simp] theorem State.advanceCount_settings (s : State) (r : Round) : (s.advanceCount r).settings = s.settings := rfl
@[simp] theorem State.advanceCount_membership (s : State) (r : Round) : (s.advanceCount r).membership = s.membership := rfl
@[simp] theorem State.advanceCount_pending (s : State) (r : Round) : (s.advanceCount r).pending = s.pending := rfl
@[simp] theorem State.advanceCount_orders (s : State) (r : Round) : (s.advanceCount r).orders = s.orders := rfl
@[simp] theorem State.advanceCount_store (s : State) (r : Round) : (s.advanceCount r).store = s.store := rfl
@[simp] theorem State.advanceCount_arrays (s : State) (r : Round) : (s.advanceCount r).arrays = s.arrays := rfl
@[simp] theorem State.advanceCount_programmer (s : State) (r : Round) : (s.advanceCount r).programmer = s.programmer := rfl
@[simp] theorem State.advanceCount_staging (s : State) (r : Round) : (s.advanceCount r).staging = s.staging := rfl
@[simp] theorem State.advanceCount_rest (s : State) (r : Round) : (s.advanceCount r).rest = s.rest := rfl
@[simp] theorem State.advanceCount_pins (s : State) (r : Round) : (s.advanceCount r).pins = s.pins := rfl
@[simp] theorem State.advanceCount_lock (s : State) (r : Round) : (s.advanceCount r).lock = s.lock := rfl
@[simp] theorem State.advanceCount_setup (s : State) (r : Round) : (s.advanceCount r).setup = s.setup := rfl
@[simp] theorem State.advanceCount_line (s : State) (r : Round) :
    (s.advanceCount r).line = { s.line with count := nextCount s.line.count r } := rfl

/-- While the station stays awake, the Rest Controller only counts at a round end (R178). -/
theorem State.restRoundEnd_awake {s : State} {r : Round} (h : s.StaysAwake r.banner.stay) :
    ∃ n, s.restRoundEnd r = s.setRest { s.rest with count := n } := by
  unfold State.restRoundEnd
  split
  · split
    · exact ⟨_, rfl⟩
    · next hs =>
      rcases h with h | h
      · exact absurd h hs
      · rw [if_neg (by omega)]; exact ⟨_, rfl⟩
  · exact ⟨s.rest.count, rfl⟩

/-- The Order Unit at a round end with no order taken changes itself and the lock only (R142, R147, R156). -/
structure OrdersOnly (s t : State) : Prop where
  eq : t = (s.setOrders t.orders).setLock t.lock

theorem OrdersOnly.refl (s : State) : OrdersOnly s s := ⟨rfl⟩

theorem OrdersOnly.trans {s t u : State} (h : OrdersOnly s t) (g : OrdersOnly t u) : OrdersOnly s u := by
  constructor
  rw [g.eq, h.eq]
  rfl

theorem loadStreamWord_ordersOnly (s : State) (st : Stream) (v : Word) : OrdersOnly s (s.loadStreamWord st v) := ⟨rfl⟩

theorem readStream_ordersOnly (s : State) (st : Stream) : OrdersOnly s (s.readStream st) := by
  unfold State.readStream
  split
  · exact loadStreamWord_ordersOnly _ _ _
  · split
    · exact ⟨rfl⟩
    · exact loadStreamWord_ordersOnly _ _ _

theorem replyDelivered_ordersOnly (s : State) : OrdersOnly s s.replyDelivered := by
  unfold State.replyDelivered
  split
  · exact OrdersOnly.refl s
  · split
    · exact ⟨rfl⟩
    · split
      · exact ⟨rfl⟩
      · exact (OrdersOnly.mk rfl : OrdersOnly s (s.setOrders { s.orders with outbox := none })).trans
          (readStream_ordersOnly _ _)

theorem openTimerRoundEnd_ordersOnly (s : State) : OrdersOnly s s.openTimerRoundEnd := by
  unfold State.openTimerRoundEnd
  split
  · exact OrdersOnly.refl s
  · split
    · split <;> exact ⟨rfl⟩
    · exact OrdersOnly.refl s

theorem ordersRoundEnd_none_ordersOnly (s : State) (won : Bool) : OrdersOnly s (s.ordersRoundEnd none won) := by
  unfold State.ordersRoundEnd
  simp only
  split
  · exact (openTimerRoundEnd_ordersOnly s).trans (replyDelivered_ordersOnly _)
  · exact openTimerRoundEnd_ordersOnly s

/-! ### Taking an order -/

/-- What an order taken leaves as it was: all but the store, the programmer's work, the Order Unit, the lock and the answer
owed. -/
structure OrderKeeps (s t : State) : Prop where
  powered : t.powered = s.powered
  pins : t.pins = s.pins
  line : t.line = s.line
  membership : t.membership = s.membership
  sequencer : t.sequencer = s.sequencer
  monitors : t.monitors = s.monitors
  ring : t.ring = s.ring
  engine : t.engine = s.engine
  staging : t.staging = s.staging
  arrays : t.arrays = s.arrays
  settings : t.settings = s.settings
  setupFault : t.setup.fault = s.setup.fault
  validated : t.setup.validated = s.setup.validated
  scanned : t.store.scanned = s.store.scanned
  scan : t.store.scan = s.store.scan
  states : ∀ b, (t.store.bank b).state = (s.store.bank b).state
  stillBad : t.store.stillBad = s.store.stillBad
  rest : t.rest = s.rest
  pending : t.pending = s.pending

theorem OrderKeeps.refl (s : State) : OrderKeeps s s := by constructor <;> intros <;> rfl

theorem OrderKeeps.trans {s t u : State} (h : OrderKeeps s t) (g : OrderKeeps t u) : OrderKeeps s u :=
  ⟨g.powered.trans h.powered, g.pins.trans h.pins, g.line.trans h.line, g.membership.trans h.membership,
    g.sequencer.trans h.sequencer, g.monitors.trans h.monitors, g.ring.trans h.ring, g.engine.trans h.engine,
    g.staging.trans h.staging, g.arrays.trans h.arrays, g.settings.trans h.settings, g.setupFault.trans h.setupFault,
    g.validated.trans h.validated, g.scanned.trans h.scanned, g.scan.trans h.scan,
    fun b => (g.states b).trans (h.states b), g.stillBad.trans h.stillBad, g.rest.trans h.rest,
    g.pending.trans h.pending⟩

theorem OrdersOnly.orderKeeps {s t : State} (h : OrdersOnly s t) : OrderKeeps s t := by
  rw [h.eq]
  constructor <;> intros <;> rfl

theorem dropAnswers_orderKeeps (s : State) : OrderKeeps s s.dropAnswers := by constructor <;> intros <;> rfl

theorem acceptOrder_orderKeeps (s : State) (c : OrderCode) (a : Word) : OrderKeeps s (s.acceptOrder c a) := by
  unfold State.acceptOrder
  generalize (if s.orders.keepsCount c a then ({ s.orders.cleared with openTimer := 0 } : Orders) else _) = o
  generalize s.lock.orderTaken c = l
  exact OrderKeeps.trans (by constructor <;> intros <;> rfl) (dropAnswers_orderKeeps _)

theorem eraseBank_orderKeeps (s : State) (b : BankId) (a : Word) : OrderKeeps s (s.eraseBank b a) := by
  unfold State.eraseBank
  split
  · constructor <;> intros <;> rfl
  · cases b
    · constructor <;> try rfl
      intro x; cases x <;> rfl
    · constructor <;> try rfl
      intro x; cases x <;> rfl

theorem pulsePending_orderKeeps (s : State) (k : Nat) (i : PulseIndex) (p : Pulse) :
    OrderKeeps s (s.pulsePending k i p) := by constructor <;> intros <;> rfl

theorem pulseLast_orderKeeps (s : State) (w : Owed) (p : Pulse) : OrderKeeps s (s.pulseLast w p) := by
  constructor <;> intros <;> rfl

theorem pulseBusy_orderKeeps (s : State) (a : Word) : OrderKeeps s (s.pulseBusy a) := by constructor <;> intros <;> rfl

theorem loadReply_orderKeeps (s : State) (st : Status) (v : Word) : OrderKeeps s (s.loadReply st v) := by
  constructor <;> intros <;> rfl

theorem handleOrder_orderKeeps (s : State) (c : OrderCode) (a : Word) : OrderKeeps s (s.handleOrder c a) := by
  unfold State.handleOrder
  split
  · constructor <;> intros <;> rfl
  · split
    · unfold State.fetchOrder State.fetchOldest State.fetchNumber
      split
      · exact (readStream_ordersOnly _ _).orderKeeps
      · split
        · split
          · exact loadReply_orderKeeps _ _ _
          · exact (readStream_ordersOnly _ _).orderKeeps
        · split
          · exact loadReply_orderKeeps _ _ _
          · split
            · exact loadReply_orderKeeps _ _ _
            · exact (readStream_ordersOnly _ _).orderKeeps
    · unfold State.markOrder
      split
      · exact loadReply_orderKeeps _ _ _
      · split <;> constructor <;> intros <;> rfl
    · constructor <;> intros <;> rfl
    · constructor <;> intros <;> rfl
    · constructor <;> intros <;> rfl
    · unfold State.programOrder
      split
      · exact loadReply_orderKeeps _ _ _
      · split
        · exact pulseBusy_orderKeeps _ _
        · split
          · exact pulseLast_orderKeeps _ _ _
          · exact pulsePending_orderKeeps _ _ _ _
    · unfold State.eraseOrder State.eraseSetupOrder
      split
      · exact eraseBank_orderKeeps _ _ _
      · split
        · exact eraseBank_orderKeeps _ _ _
        · split
          · split
            · exact pulseBusy_orderKeeps _ _
            · split
              · exact pulseLast_orderKeeps _ _ _
              · exact pulsePending_orderKeeps _ _ _ _
          · exact loadReply_orderKeeps _ _ _
    · exact OrderKeeps.refl s

theorem ordersRoundEnd_orderKeeps (s : State) (x : Option (OrderCode × Word)) (won : Bool) :
    OrderKeeps s (s.ordersRoundEnd x won) := by
  cases x with
  | none => exact (ordersRoundEnd_none_ordersOnly s won).orderKeeps
  | some x => exact (acceptOrder_orderKeeps s x.1 x.2).trans (handleOrder_orderKeeps _ x.1 x.2)

/-! ### Entry into DORMANT -/

/-- What the Rest Controller leaves as it was at a round end, entry into DORMANT or not (R178, R179). -/
structure RestKeeps (s t : State) : Prop where
  powered : t.powered = s.powered
  straps : t.pins.straps = s.pins.straps
  count : t.line.count = s.line.count
  round : s.line.round = none → t.line.round = none
  number : t.membership.number = s.membership.number
  cause : t.membership.cause = s.membership.cause
  store : t.store = s.store
  arrays : t.arrays = s.arrays
  settings : t.settings = s.settings
  setupFault : t.setup.fault = s.setup.fault
  validated : t.setup.validated = s.setup.validated
  pending : t.pending = s.pending
  holding : t.orders.holding = s.orders.holding

theorem beginPattern_restKeeps (s : State) : RestKeeps s s.beginPattern := by
  constructor <;> first | rfl | exact fun h => h

theorem RestKeeps.trans {s t u : State} (h : RestKeeps s t) (g : RestKeeps t u) : RestKeeps s u :=
  ⟨g.powered.trans h.powered, g.straps.trans h.straps, g.count.trans h.count, fun x => g.round (h.round x),
    g.number.trans h.number, g.cause.trans h.cause, g.store.trans h.store, g.arrays.trans h.arrays,
    g.settings.trans h.settings, g.setupFault.trans h.setupFault, g.validated.trans h.validated,
    g.pending.trans h.pending, g.holding.trans h.holding⟩

/-- The station at entry into DORMANT, before a wake that is due at once (R42, R179). -/
def State.rested (s : State) (low : Bool) : State :=
  ((s.depart.setMembership s.depart.membership.rest).setLine
    { s.depart.line.inactive with detector := if low then .timing else .idle, lowTime := 0 }).setRest
      (restEntered s.depart.settings)

theorem State.enterDormant_eq (s : State) (low : Bool) :
    s.enterDormant low = if s.monitors.alertPending then (s.rested low).beginPattern else s.rested low := by
  have h : (s.rested low).monitors.alertPending = s.monitors.alertPending := by
    show s.depart.monitors.alertPending = _
    rw [s.depart_acquisition.2.2.1]
    rfl
  rw [← h]
  rfl

theorem rested_restKeeps (s : State) (low : Bool) : RestKeeps s (s.rested low) := by
  constructor <;> simp [State.rested, Membership.rest, Line.inactive]

theorem enterDormant_restKeeps (s : State) (low : Bool) : RestKeeps s (s.enterDormant low) := by
  rw [State.enterDormant_eq]
  split
  · exact (rested_restKeeps s low).trans (beginPattern_restKeeps _)
  · exact rested_restKeeps s low

theorem restRoundEnd_restKeeps (s : State) (r : Round) : RestKeeps s (s.restRoundEnd r) := by
  unfold State.restRoundEnd
  split
  · split
    · constructor <;> first | rfl | exact fun h => h
    · split
      · exact enterDormant_restKeeps _ _
      · constructor <;> first | rfl | exact fun h => h
  · constructor <;> first | rfl | exact fun h => h

theorem enterDormant_engine (s : State) (low : Bool) : (s.enterDormant low).engine = s.depart.engine := by
  rw [State.enterDormant_eq]
  split <;> rfl

theorem restRoundEnd_next (s : State) (r : Round) : (s.restRoundEnd r).engine.next = s.engine.next := by
  unfold State.restRoundEnd
  split
  · split
    · rfl
    · split
      · rw [enterDormant_engine]; exact s.depart_engine.2.2.1
      · rfl
  · rfl

/-! ### The round end as a whole -/

/-- A round end of a kind, as the row of that kind (section 13.1). -/
theorem exec_roundCommand (r : Round) {s : State} (hp : s.powered = true) :
    exec (roundCommand r) s = .next (s.roundEnd r noStart).refreshFault := by
  obtain ⟨k, b, y⟩ := r
  cases k <;> exact act_powered hp fun s => s.roundEnd _ noStart

/-- A round end that is no RESTART's, as the row of its kind. -/
theorem exec_roundCommand_closeRound {s : State} {o : Offers} {r : Round} {out : OfferOutcome}
    (h : s.EndsRound o r out) (hr : s.restarts r = false) :
    exec (roundCommand r) s = .next (s.closeRound o r out).refreshFault := by
  rw [exec_roundCommand r h.1, State.roundEnd_of_endsRound h, hr]
  rfl

theorem takenOrder_of_kind {s : State} {r : Round} (h : r.kind ≠ .order) : s.takenOrder r = none := by
  simp [State.takenOrder, h]

theorem restarts_of_kind {s : State} {r : Round} (h : r.kind ≠ .order) : s.restarts r = false := by
  unfold State.restarts; rw [takenOrder_of_kind h]

/-- Coming no nearer to rest: the reactions before the Order Unit's leave the rest count, or clear it (R178). -/
theorem State.beforeOrders_awake {s : State} {stay : Bool} (h : s.StaysAwake stay) (o : Offers) (r : Round)
    (out : OfferOutcome) : (s.beforeOrders o r out).StaysAwake stay := by
  have hc : (s.beforeOrders o r out).rest.count = s.rest.count ∨ (s.beforeOrders o r out).rest.count = 0 := by
    rw [(s.beforeOrders_engineSide o r out).2.2.2]
    have c1 : (s.completePass.lineRoundEnd.ringRoundEnd r).rest = s.rest :=
      (s.completePass.lineRoundEnd.ringRoundEnd_side r).2.2.2.2.2.2.2.1.trans s.completePass_side.2.2.2.2.2.2.2
    unfold State.beforeEngine State.membershipRoundEnd
    split
    · split
      · right
        show (s.completePass.lineRoundEnd.ringRoundEnd r).depart.rest.count = 0
        rw [(s.completePass.lineRoundEnd.ringRoundEnd r).depart_acquisition.2.2.2]
      · left; exact congrArg Rest.count c1
      · left; split <;> exact congrArg Rest.count c1
    · left; split <;> exact congrArg Rest.count c1
  rcases h with h | h
  · exact Or.inl h
  · right
    rcases hc with hc | hc <;> rw [hc]
    · exact h
    · decide

/-- The end of a round that carries no order to this station and brings no rest: the reactions before the Order Unit's, then
the Order Unit's open timer and stream, the round count, the rest count, and the programmer's next take. -/
theorem State.closeRound_awake {s : State} {o : Offers} {r : Round} {out : OfferOutcome}
    (ht : s.takenOrder r = none) (ha : s.StaysAwake r.banner.stay) :
    ∃ n, s.closeRound o r out
      = (((((s.beforeOrders o r out).setOrders
          ((s.beforeOrders o r out).ordersRoundEnd none (replyWon o out)).orders).setLock
          ((s.beforeOrders o r out).ordersRoundEnd none (replyWon o out)).lock).advanceCount r).setRest
          { (s.beforeOrders o r out).rest with count := n }).take := by
  have h := ordersRoundEnd_none_ordersOnly (s.beforeOrders o r out) (replyWon o out)
  unfold State.closeRound State.afterOrders
  rw [ht]
  obtain ⟨n, hn⟩ := State.restRoundEnd_awake
    (s := ((s.beforeOrders o r out).ordersRoundEnd none (replyWon o out)).advanceCount r) (r := r)
    (by rw [h.eq]; exact State.beforeOrders_awake ha o r out)
  refine ⟨n, ?_⟩
  rw [hn]
  congr 1
  generalize (s.beforeOrders o r out).ordersRoundEnd none (replyWon o out) = x at h ⊢
  conv_lhs => rw [h.eq]
  rfl

/-- NEXT, the settings and the number past a round end that is no RESTART's (R79, R80, R165). -/
theorem State.closeRound_keeps (s : State) (o : Offers) (r : Round) (out : OfferOutcome) :
    (s.closeRound o r out).powered = s.powered ∧ (s.closeRound o r out).settings = s.settings
      ∧ (s.closeRound o r out).membership.number = s.membership.number
      ∧ (s.closeRound o r out).pending = s.pending
      ∧ (s.closeRound o r out).line.count = nextCount s.line.count r
      ∧ (s.closeRound o r out).line.round = none
      ∧ (s.closeRound o r out).engine.next
          = (if r.kind = .incident then nextAfter s.engine.next (incidentNumber r.body) else s.engine.next) := by
  have hb := beforeOrders_keeps s o r out
  have ho := ordersRoundEnd_orderKeeps (s.beforeOrders o r out) (s.takenOrder r) (replyWon o out)
  have hd := restRoundEnd_restKeeps
    (((s.beforeOrders o r out).ordersRoundEnd (s.takenOrder r) (replyWon o out)).advanceCount r) r
  have hn := restRoundEnd_next
    (((s.beforeOrders o r out).ordersRoundEnd (s.takenOrder r) (replyWon o out)).advanceCount r) r
  rw [State.advanceCount_engine, ho.engine, s.beforeOrders_next] at hn
  unfold State.closeRound State.afterOrders
  refine ⟨?_, ?_, ?_, ?_, ?_, ?_, by rw [State.take_engine]; exact hn⟩
  · rw [State.take_powered, hd.powered, State.advanceCount_powered, ho.powered, hb.powered]
  · rw [State.take_settings, hd.settings, State.advanceCount_settings, ho.settings, hb.settings]
  · rw [State.take_membership, hd.number, State.advanceCount_membership, ho.membership, hb.number]
  · rw [State.take_pending, hd.pending, State.advanceCount_pending, ho.pending, hb.pending]
  · rw [State.take_line, hd.count, State.advanceCount_line, ho.line, State.beforeOrders_count]
  · rw [State.take_line]
    exact hd.round (by rw [State.advanceCount_line, ho.line]; exact State.beforeOrders_round s o r out)

/-- The end of the round within which the station aligned: only the slot timing moves (R13, log entry 35). -/
theorem State.roundEnd_of_no_offers {s : State} (ha : s.line.align = .aligned) (ho : s.onLine = true)
    (hr : s.line.round = none) (r : Round) (i : StartInputs) :
    s.roundEnd r i = s.setLine { s.line with burstPoints := 0, position := 0, phase := .q1, phaseTime := 0 } := by
  simp [State.roundEnd, ha, ho, hr]

end Sys2Proof.Machine
end

