-- ==== Sys2Proof/Laws/Scan.lean ====
section
/-!
SUPPORT. The start-up scan: what a stage touches, that every stage brings the scan nearer to its end, and that the command
that ends the scan runs whatever stages are left.
-/

namespace Sys2Proof.Machine

/-! ### What a stage touches -/

/-- A stage of the scan touches the store, and, through the programmer's take, what a take can touch. -/
structure ScanTouches (s t : State) : Prop where
  powered : t.powered = s.powered
  pins : t.pins = s.pins
  line : t.line = s.line
  membership : t.membership = s.membership
  sequencer : t.sequencer = s.sequencer
  monitors : t.monitors = s.monitors
  ring : t.ring = s.ring
  engine : t.engine = s.engine
  lock : t.lock = s.lock
  settings : t.settings = s.settings
  setupFault : t.setup.fault = s.setup.fault
  validated : t.setup.validated = s.setup.validated
  rest : t.rest = s.rest
  pending : t.pending = s.pending
  scanned : t.store.scanned = s.store.scanned
  openTimer : t.orders.openTimer = s.orders.openTimer
  holding : t.orders.holding = s.orders.holding
  pulseCount : t.orders.pulseCount = s.orders.pulseCount
  pulseIndex : t.orders.pulseIndex = s.orders.pulseIndex

theorem ScanTouches.refl (s : State) : ScanTouches s s := by constructor <;> rfl

theorem ScanTouches.trans {s t u : State} (h : ScanTouches s t) (g : ScanTouches t u) : ScanTouches s u :=
  ⟨g.powered.trans h.powered, g.pins.trans h.pins, g.line.trans h.line, g.membership.trans h.membership,
    g.sequencer.trans h.sequencer, g.monitors.trans h.monitors, g.ring.trans h.ring, g.engine.trans h.engine,
    g.lock.trans h.lock, g.settings.trans h.settings, g.setupFault.trans h.setupFault, g.validated.trans h.validated,
    g.rest.trans h.rest, g.pending.trans h.pending, g.scanned.trans h.scanned, g.openTimer.trans h.openTimer,
    g.holding.trans h.holding, g.pulseCount.trans h.pulseCount, g.pulseIndex.trans h.pulseIndex⟩

theorem scanTouches_setStore_take (s : State) {t : Store} (h : t.scanned = s.store.scanned) :
    ScanTouches s (s.setStore t).take := by
  have k := keeps_take (s.setStore t)
  exact ⟨k.powered, k.pins, k.line, k.membership, k.sequencer, k.monitors, k.ring, k.engine, k.lock, k.settings,
    k.setupFault, k.validated, k.rest, k.pending, k.scanned.trans h, k.openTimer, k.holding, k.pulseCount, k.pulseIndex⟩

theorem Store.scanClassify_scanned (t : Store) (b : BankId) (m : Nv) : (t.scanClassify b m).scanned = t.scanned := by
  unfold Store.scanClassify; split <;> simp

theorem Store.walkOn_scanned (t : Store) (b : BankId) (p : Nat) : (t.walkOn b p).scanned = t.scanned := by
  unfold Store.walkOn; split <;> rfl

theorem Store.scanWalk_scanned (t : Store) (b : BankId) (m : Nv) (p : Nat) : (t.scanWalk b m p).scanned = t.scanned := by
  unfold Store.scanWalk
  split
  · rfl
  · rfl
  all_goals
    simp only
    split
    · rw [Store.walkOn_scanned]; simp [Store.passRecord, Store.addRecord]
    · rfl

theorem scanStage_touches (s : State) : ScanTouches s s.scanStage := by
  unfold State.scanStage
  split
  · exact scanTouches_setStore_take s (Store.scanClassify_scanned _ _ _)
  · exact scanTouches_setStore_take s (Store.scanWalk_scanned _ _ _ _)
  · exact ScanTouches.refl s

theorem scanThrough_touches (fuel : Nat) : ∀ s : State, ScanTouches s (State.scanThrough fuel s) := by
  induction fuel with
  | zero => exact ScanTouches.refl
  | succ n ih =>
    intro s
    unfold State.scanThrough
    split
    · exact ScanTouches.refl s
    · exact (scanStage_touches s).trans (ih _)

theorem scanStage_wf {s : State} (h : s.arrays.wf = true) : s.scanStage.arrays.wf = true := by
  unfold State.scanStage
  split
  · exact take_wf h
  · exact take_wf h
  · exact h

theorem scanThrough_wf (fuel : Nat) : ∀ s : State, s.arrays.wf = true → (State.scanThrough fuel s).arrays.wf = true := by
  induction fuel with
  | zero => exact fun _ h => h
  | succ n ih =>
    intro s h
    unfold State.scanThrough
    split
    · exact h
    · exact ih _ (scanStage_wf h)

/-! ### The scan ends -/

/-- How many stages can be left at most. -/
def ScanStage.left : ScanStage → Nat
  | .classify .bank0 => 2 * (Config.bankWords + 1) + 2
  | .classify .bank1 => 2 * (Config.bankWords + 1) + 1
  | .walk .bank0 p => (Config.bankWords - p) + 1 + (Config.bankWords + 1)
  | .walk .bank1 p => (Config.bankWords - p) + 1
  | .decide => 0

theorem ScanStage.left_le (g : ScanStage) : g.left ≤ scanStages := by
  unfold ScanStage.left scanStages
  split <;> simp only [Config.bankWords] <;> omega

theorem Scan.walked_left (c : Scan) (b : BankId) (p : Nat) : (c.walked b).stage.left < (ScanStage.walk b p).left := by
  cases b
  · unfold Scan.walked
    simp only
    split <;> simp only [Scan.enter, ScanStage.left] <;> omega
  · simp [Scan.walked, Scan.enter, ScanStage.left]

theorem Scan.classified_left (c : Scan) (b : BankId) : (c.classified b).stage.left < (ScanStage.classify b).left := by
  cases b
  · simp [Scan.classified, Scan.enter, ScanStage.left]
  · unfold Scan.classified Scan.walked
    simp only
    split
    · simp only [Scan.enter, ScanStage.left]; omega
    · split <;> simp only [Scan.enter, ScanStage.left] <;> omega

theorem Store.scanClassify_left (t : Store) (b : BankId) (m : Nv) :
    (t.scanClassify b m).scan.stage.left < (ScanStage.classify b).left := by
  unfold Store.scanClassify
  split <;> exact Scan.classified_left _ b

theorem Store.walkOn_left (t : Store) (b : BankId) {p q : Nat} (h : p < q) :
    (t.walkOn b q).scan.stage.left < (ScanStage.walk b p).left := by
  unfold Store.walkOn
  split
  · cases b <;> simp only [Scan.enter, ScanStage.left] <;> omega
  · exact Scan.walked_left _ b p

theorem Store.scanWalk_left (t : Store) (b : BankId) (m : Nv) (p : Nat) :
    (t.scanWalk b m p).scan.stage.left < (ScanStage.walk b p).left := by
  have hn : ∀ w, validLength p w = true → p < p + w.toNat := by
    intro w hw
    simp only [validLength, Bool.and_eq_true, decide_eq_true_eq] at hw
    have h13 : 13 ≤ w.toNat := hw.1.1
    omega
  unfold Store.scanWalk
  split
  · exact Scan.walked_left _ b p
  · exact Scan.walked_left _ b p
  all_goals
    simp only
    split
    · next h => exact Store.walkOn_left _ b (hn _ h)
    · exact Scan.walked_left _ b p

/-- A stage brings the scan nearer to its decision. -/
theorem State.scanStage_left {s : State} (h : s.store.scan.stage ≠ .decide) :
    s.scanStage.store.scan.stage.left < s.store.scan.stage.left := by
  unfold State.scanStage
  split
  · next b hb =>
    rw [(keeps_take _).scan, hb]
    exact Store.scanClassify_left _ b _
  · next b p hb =>
    rw [(keeps_take _).scan, hb]
    exact Store.scanWalk_left _ b _ p
  · next hd => exact absurd hd h

/-- With as many stages allowed as can be left, one more changes nothing. -/
theorem State.scanThrough_succ (n : Nat) : ∀ s : State, s.store.scan.stage.left ≤ n →
    State.scanThrough (n + 1) s = State.scanThrough n s := by
  induction n with
  | zero =>
    intro s h
    have hd : s.store.scan.stage = .decide := by
      revert h
      cases s.store.scan.stage with
      | decide => simp
      | classify b => cases b <;> simp [ScanStage.left]
      | walk b p => cases b <;> simp [ScanStage.left]
    simp [State.scanThrough, hd]
  | succ n ih =>
    intro s h
    by_cases hd : s.store.scan.stage = .decide
    · simp [State.scanThrough, hd]
    · have hl := State.scanStage_left hd
      rw [State.scanThrough, if_neg hd, ih _ (by omega)]
      rw [State.scanThrough, if_neg hd]

/-- Running the stages that are left begins with the stage the scan stands at. -/
theorem State.scanThrough_stage {s : State} (h : s.store.scan.stage ≠ .decide) :
    State.scanThrough scanStages s = State.scanThrough scanStages s.scanStage := by
  rw [← State.scanThrough_succ scanStages s (ScanStage.left_le _), State.scanThrough, if_neg h]

/-- The scan's end, from a stage before its decision, is the scan's end after that stage. -/
theorem State.startupScan_stage {s : State} (h : s.store.scanned = false) (hs : s.store.scan.stage ≠ .decide) :
    s.startupScan = s.scanStage.startupScan := by
  have k := (scanStage_touches s).scanned
  unfold State.startupScan
  rw [h, k, h]
  simp only [Bool.false_eq_true, if_false]
  rw [State.scanThrough_stage hs]

/-- With all read, the scan's end is its decision. -/
theorem State.startupScan_decide {s : State} (h : s.store.scanned = false) (hs : s.store.scan.stage = .decide) :
    s.startupScan = s.scanEnd := by
  have hd : State.scanThrough scanStages s = s := by
    unfold scanStages
    simp [State.scanThrough, Config.bankWords, hs]
  unfold State.startupScan
  rw [h, hd]
  rfl

end Sys2Proof.Machine
end

