-- ==== Sys2Proof/Laws/Taken.lean ====
section
/-!
SUPPORT. An order to this station, a MEMBER that stays awake: what taking it leaves before it is handled, and what every
handling leaves.
-/

namespace Sys2Proof.Machine

/-! ### An order accepted (R140) -/

/-- What an order accepted has dropped and cleared, in the state `x` in which it is handled. -/
structure Accepts (s x : State) (code : OrderCode) (arg : Word) : Prop where
  store : x.store = s.store
  arrays : x.arrays = s.arrays
  lock : x.lock = s.lock.orderTaken code
  awaited : x.orders.awaited = none
  outbox : x.orders.outbox = none
  stream : x.orders.stream = none
  read : x.orders.read = .none
  openTimer : x.orders.openTimer = 0
  holding : x.orders.holding = s.orders.holding
  setup : x.setup = { s.setup with owed := .none }
  programmer : x.programmer = s.programmer.forgetAnswers
  count : x.orders.pulseCount = if s.orders.keepsCount code arg then s.orders.pulseCount else 0
  index : x.orders.pulseIndex = if s.orders.keepsCount code arg then s.orders.pulseIndex else none

theorem Accepts.settings {s x : State} {code : OrderCode} {arg : Word} (h : Accepts s x code arg) :
    x.settings = s.settings := by
  unfold State.settings
  rw [h.setup]

/-- The Order Unit's own state once an order is accepted. -/
theorem acceptOrder_orders (s : State) (code : OrderCode) (arg : Word) :
    (s.acceptOrder code arg).orders
      = { s.orders.cleared with
          awaited := none, openTimer := 0
          pulseCount := if s.orders.keepsCount code arg then s.orders.pulseCount else 0
          pulseIndex := if s.orders.keepsCount code arg then s.orders.pulseIndex else none } := by
  simp only [State.acceptOrder, State.dropAnswers, State.setProgrammer_orders, State.setSetup_orders,
    State.setOrders_orders, State.setLock_orders]
  cases s.orders.keepsCount code arg <;> rfl

theorem acceptOrder_accepts (s : State) (code : OrderCode) (arg : Word) : Accepts s (s.acceptOrder code arg) code arg := by
  have h := acceptOrder_orders s code arg
  constructor
  case store | arrays | lock | setup | programmer =>
    simp only [
      State.acceptOrder, State.dropAnswers, State.setProgrammer_store, State.setProgrammer_arrays,
      State.setProgrammer_lock, State.setProgrammer_setup, State.setProgrammer_programmer, State.setSetup_store,
      State.setSetup_arrays, State.setSetup_lock, State.setSetup_setup,
      State.setOrders_store, State.setOrders_arrays, State.setOrders_lock, State.setOrders_setup,
      State.setOrders_programmer, State.setLock_store, State.setLock_arrays, State.setLock_lock,
      State.setLock_setup, State.setLock_programmer]
  all_goals rw [h]
  case outbox | stream | read | holding => rfl

theorem takesOrder_accepts (s : State) (o : Offers) (out : OfferOutcome) (banner : Banner) (code : OrderCode)
    (arg : Word) :
    Accepts s ((s.beforeOrders o (s.orderRound banner code arg) out).acceptOrder code arg) code arg := by
  have hb := beforeOrders_keeps s o (s.orderRound banner code arg) out
  have h := acceptOrder_accepts (s.beforeOrders o (s.orderRound banner code arg) out) code arg
  constructor
  · rw [h.store, hb.store]
  · rw [h.arrays, hb.arrays]
  · rw [h.lock, hb.lock]
  · exact h.awaited
  · exact h.outbox
  · exact h.stream
  · exact h.read
  · exact h.openTimer
  · rw [h.holding, hb.orders]
  · rw [h.setup, hb.setup]
  · rw [h.programmer, hb.programmer]
  · rw [h.count, hb.orders]
  · rw [h.index, hb.orders]

/-- Whether a bank erase runs does not depend on what is still awaited. -/
theorem bankErasing_forgetAnswers {s x : State} (h : x.programmer = s.programmer.forgetAnswers) :
    x.bankErasing = s.bankErasing := by
  unfold State.bankErasing
  rw [h]
  cases hop : s.programmer.op with
  | idle => simp [Programmer.forgetAnswers, hop]
  | bankErase b w => simp [Programmer.forgetAnswers, hop]
  | pulse p => cases p <;> simp [Programmer.forgetAnswers, hop]
  | word w => obtain ⟨pu, _⟩ := w; cases pu <;> simp [Programmer.forgetAnswers, hop]

/-- Whether a word program runs in a bank does not depend on what is still awaited. -/
theorem programming_forgetAnswers (p : Programmer) (b : BankId) : p.forgetAnswers.programming b = p.programming b := by
  unfold Programmer.programming
  cases hop : p.op with
  | idle => simp [Programmer.forgetAnswers, hop]
  | bankErase b w => simp [Programmer.forgetAnswers, hop]
  | pulse q => cases q <;> simp [Programmer.forgetAnswers, hop]
  | word w => obtain ⟨pu, _⟩ := w; cases pu <;> simp [Programmer.forgetAnswers, hop]

/-- Whether a commit writes a bank does not depend on what is still awaited. -/
theorem commitWriting_forgetAnswers {s x : State} (h : x.programmer = s.programmer.forgetAnswers) (b : BankId) :
    x.commitWriting b = s.commitWriting b := by
  unfold State.commitWriting
  rw [h]
  have hc : s.programmer.forgetAnswers.commit = s.programmer.commit := rfl
  rw [hc]
  cases s.programmer.commit with
  | some c => rfl
  | none =>
    cases hop : s.programmer.op with
    | idle => simp [Programmer.forgetAnswers, hop]
    | bankErase b w => simp [Programmer.forgetAnswers, hop]
    | pulse p => cases p <;> simp [Programmer.forgetAnswers, hop]
    | word w =>
      obtain ⟨pu, _⟩ := w
      cases pu <;> simp [Programmer.forgetAnswers, hop]
      rfl

/-! ### An order handled -/

/-- The read of a stream's word leaves all but the outbox, the stream and its read. -/
theorem readStream_keeps (s : State) (st : Machine.Stream) :
    (s.readStream st).programmer = s.programmer ∧ (s.readStream st).orders.openTimer = s.orders.openTimer
      ∧ (s.readStream st).store = s.store ∧ (s.readStream st).lock = s.lock ∧ (s.readStream st).setup = s.setup
      ∧ (s.readStream st).orders.stream = some st ∧ (s.readStream st).orders.holding = s.orders.holding
      ∧ (s.readStream st).orders.awaited = s.orders.awaited
      ∧ (s.readStream st).orders.pulseCount = s.orders.pulseCount := by
  unfold State.readStream
  split
  · simp [State.loadStreamWord]
  · split <;> simp [State.loadStreamWord]

/-- The round end of an order to a station that stays awake: the order handled, the round count, the rest count, the
programmer's take. -/
theorem orderToStation_awake {s : State} {o : Offers} {out : OfferOutcome} {banner : Banner} {code : OrderCode}
    {arg : Word} (h : s.TakesOrder o out banner code arg) (i : StartInputs)
    (hc : code ≠ .restart ∨ s.lock ≠ .opened) :
    ∃ n, s.orderToStation banner code arg i
      = (((((s.beforeOrders o (s.orderRound banner code arg) out).acceptOrder code arg).handleOrder code
          arg).advanceCount (s.orderRound banner code arg)).setRest
          { (s.beforeOrders o (s.orderRound banner code arg) out).rest with count := n }).take := by
  rw [State.orderToStation_of_takesOrder h i hc]
  have k := (acceptOrder_orderKeeps (s.beforeOrders o (s.orderRound banner code arg) out) code arg).trans
    (handleOrder_orderKeeps _ code arg)
  have ha : ((((s.beforeOrders o (s.orderRound banner code arg) out).acceptOrder code arg).handleOrder code
      arg).advanceCount (s.orderRound banner code arg)).StaysAwake banner.stay := by
    have hb := State.beforeOrders_awake h.2.2 o (s.orderRound banner code arg) out
    unfold State.StaysAwake at *
    rw [State.advanceCount_rest, k.rest]
    exact hb
  obtain ⟨n, hn⟩ := State.restRoundEnd_awake (r := s.orderRound banner code arg) ha
  refine ⟨n, ?_⟩
  unfold State.afterOrders
  rw [hn, State.advanceCount_rest, k.rest]

/-- What every order taken leaves, once its handling is known to touch neither the operation nor the commit. -/
theorem orderLeaves_of_handled {s x : State} {o : Offers} {out : OfferOutcome} {banner : Banner} {code : OrderCode}
    {arg : Word} (h : s.TakesOrder o out banner code arg) (n : Nat)
    (hx : x = (s.beforeOrders o (s.orderRound banner code arg) out).acceptOrder code arg)
    (hop : (x.handleOrder code arg).programmer.op = x.programmer.op)
    (hco : (x.handleOrder code arg).programmer.commit = x.programmer.commit)
    (hot : (x.handleOrder code arg).orders.openTimer = x.orders.openTimer) :
    s.OrderLeaves (((x.handleOrder code arg).advanceCount (s.orderRound banner code arg)).setRest
      { (s.beforeOrders o (s.orderRound banner code arg) out).rest with count := n }) := by
  have k1 := acceptOrder_orderKeeps (s.beforeOrders o (s.orderRound banner code arg) out) code arg
  rw [← hx] at k1
  have k := k1.trans (handleOrder_orderKeeps x code arg)
  have ha : Accepts s x code arg := hx ▸ takesOrder_accepts s o out banner code arg
  have hb := beforeOrders_keeps s o (s.orderRound banner code arg) out
  have hm : (s.beforeOrders o (s.orderRound banner code arg) out).membership.state = .member := by
    rw [State.beforeOrders_membership]
    simp [Membership.afterRound, h.2.1, State.orderRound, Membership.countRoll]
  have hn := s.beforeOrders_next o (s.orderRound banner code arg) out
  rw [if_neg (by simp [State.orderRound])] at hn
  have hcount : nextCount s.line.count (s.orderRound banner code arg) = s.line.count + 1 := by
    simp [nextCount, State.orderRound]
  refine ⟨?_, ?_, ?_, ?_, ?_, ?_, ?_, ?_, ?_, ?_, ?_⟩
  · simp [k.powered, h.1.1]
  · simp [k.pending]
  · exact k.settings.trans hb.settings
  · simp [k.arrays]
  · rw [State.setRest_programmer, State.advanceCount_programmer, hco, ha.programmer]
    rfl
  · rw [State.setRest_programmer, State.advanceCount_programmer, hop, ha.programmer]
  · simp [k.membership, hm]
  · simp [k.membership]
  · simp [k.line, hcount]
  · simp [k.engine, hn]
  · rw [State.setRest_orders, State.advanceCount_orders, hot, ha.openTimer]

end Sys2Proof.Machine
end

