-- ==== Sys2Proof/Tests/Slice0.lean ====
section
/-!
SUPPORT. Tests of the model on small states: the checks of WellFormed, one step each against values the spec states, and a
state and operands that meet the hypotheses of every obligation, clause by clause.
-/

namespace Sys2Proof.Tests

open Sys2Proof.Machine

set_option Elab.async false

/-! ### Terms the checks refuse -/

def awake : Banner := ⟨false, true⟩
def released : Banner := ⟨false, false⟩

theorem test_roll_timer_is_not_due_at_a_roll_round :
    (Instr.rollTimerDue ⟨.roll, awake, 0⟩ noStart).wellFormed = false := by decide
theorem test_no_rest_in_a_round_with_stay_pulled :
    (Instr.enterDormant ⟨.quiet, awake, 0⟩ noStart).wellFormed = false := by decide
theorem test_fetch_of_a_number_is_not_fetch_0 : (Instr.fetch awake 0).wellFormed = false := by decide
theorem test_fetch_of_a_number_is_not_fetch_status : (Instr.fetch awake 0xFFFF).wellFormed = false := by decide
theorem test_erase_2_is_the_setup_pulse : (Instr.erase awake 2).wellFormed = false := by decide
theorem test_a_fall_in_q4_of_slot_0_is_not_foreign : (Instr.foreignPulse (.fall 0 .q4)).wellFormed = false := by decide
theorem test_a_fall_in_slot_3_is_not_foreign : (Instr.foreignPulse (.fall 3 .q1)).wellFormed = false := by decide
theorem test_masks_rise_by_address : (Instr.bankEraseDone [(5, 1), (5, 2)] 0).wellFormed = false := by decide
theorem test_masks_lie_in_the_bank : (Instr.bankEraseDone [(16384, 1)] 0).wellFormed = false := by decide
theorem test_masks_are_not_empty : (Instr.bankEraseDone [(5, 0)] 0).wellFormed = false := by decide
theorem test_setup_masks_lie_in_the_block : (Instr.setupErasePulseDone [(31, 1)]).wellFormed = false := by decide
theorem test_a_start_reports_masks_in_the_bank :
    (Instr.start ⟨0, ⟨0, false, false, [(16384, 1)], false⟩⟩).wellFormed = false := by decide
theorem test_a_power_loss_reports_masks_in_the_bank :
    (Instr.powerLoss ⟨0, false, false, [(2, 1), (1, 1)], false⟩).wellFormed = false := by decide
theorem test_a_restart_reports_masks_in_the_bank :
    (Instr.restart awake 0 ⟨0, ⟨0, false, false, [(1, 0)], false⟩⟩).wellFormed = false := by decide
theorem test_an_order_round_reports_masks_in_the_bank :
    (Instr.orderRound awake 0 ⟨0, ⟨0, false, false, [(1, 0)], false⟩⟩).wellFormed = false := by decide
theorem test_an_open_timer_expiry_reports_masks_in_the_bank :
    (Instr.openTimerExpiry ⟨.quiet, awake, 0⟩ ⟨0, ⟨0, false, false, [(1, 0)], false⟩⟩).wellFormed = false := by decide
theorem test_a_capture_end_reports_masks_in_the_bank :
    (Instr.captureEnd ⟨.quiet, awake, 0⟩ ⟨0, ⟨0, false, false, [(1, 0)], false⟩⟩).wellFormed = false := by decide
theorem test_proper_terms_are_well_formed :
    (Instr.fetch awake 1).wellFormed = true ∧ (Instr.foreignPulse (.fall 0 .q1)).wellFormed = true
      ∧ (Instr.bankEraseDone [(0, 1), (16383, 2)] 0).wellFormed = true ∧ (Instr.erase awake 1).wellFormed = true := by
  decide

/-! ### States to start from -/

/-- The state after a command that answers next. -/
def after (c : Instr) (s : State) : State :=
  match exec c s with
  | .next t => t
  | .fault _ | .refused _ => s

/-- The offers of a station that wants no kind. -/
def quietOffers : Offers := ⟨.none, released, true, false, false, false⟩

/-- Station 11, started, in a membership state. -/
def station (m : MemberState) : State :=
  ((State.reset.setMembership { State.reset.membership with state := m, number := 11 }).setSetup
    { State.reset.setup with validated := true }).setStore { State.reset.store with scanned := true }

/-- An ALIGNED station before its mark slot. -/
def aligned (m : MemberState) : State := (station m).setLine { State.reset.line with align := .aligned }

/-- An ALIGNED station in a round with its offers. -/
def inRound (m : MemberState) (o : Offers) : State := (station m).setLine
  { State.reset.line with align := .aligned, round := some o }

/-- A MEMBER in a round in which it offers nothing. -/
def member : State := inRound .member quietOffers

/-- A station whose scan stands at a stage, with the banks' arrays. -/
def scanning (g : ScanStage) (b0 b1 : Nv) : State :=
  (State.reset.setArrays ⟨b0, b1, []⟩).setStore { State.reset.store with scan := Scan.first.enter g }

/-- A joiner of a round in which it offers PROBE. -/
def probeOffers (code : BitVec 16) : Offers := ⟨.probe code, ⟨false, true⟩, false, false, false, false⟩
def joiner : State := inRound .joining (probeOffers 0x1234)

/-- A SEEKING station that searches, with a search so far. -/
def searcher (s : Search) : State := (station .seeking).setLine
  { State.reset.line with search := s, silence := some Timer.zero }

/-- A DORMANT station at rest. -/
def resting : State := (station .dormant).setRest { State.reset.rest with sense := some Timer.zero, forced := some Timer.zero }

/-- A member with its lock OPEN. -/
def openMember : State := member.setLock .opened

/-- A member with a stored key, as setup words 27 to 29 may hold it. -/
def keyed (l : Lock) : State :=
  (member.setSetup { member.setup with working := defaultSettings ⟨0x3C51, 0x9A07, 0x00E2⟩ }).setLock l

def openConstruction : Construction :=
  member.openConstruction ⟨45, 3, 7, 91⟩ 7205

/-- A member in a capture round, with one block of its burst part standing. -/
def captureOffers : Offers := { quietOffers with captureRound := true }
def capturing (remaining : Nat) : State :=
  (((inRound .member captureOffers).setEngine
      { State.reset.engine with state := .capturing, next := 46, primary := 45, remaining := remaining }).setStaging
    { State.reset.staging with slot0 := .filling (addBlock openConstruction) }).setSequencer
      { State.reset.sequencer with baselines := [some 100] }

/-- A setup block of thirty words and its check. -/
def block (ws : List Word) : Nv :=
  (List.range 31).foldl (fun m k => nvWrite m k ((ws ++ [crc16 ws]).getD k 0xFFFF)) []

/-- Settings in range: four inputs in one segment, everything else at the lowest code but the limits. -/
def goodWords : List Word :=
  [0x0000, 0x4420, 0x0000, 0x0100, 0x2300, 0, 0, 0, 0, 0x0000] ++ (List.replicate 8 [0x0000, 0x0FFF]).flatten
    ++ [0x5555, 0x3C51, 0x9A07, 0x00E2]

/-- A record of 13 words at position 1 of a bank with header 1. -/
def bankWith (stateWord : Word) : Nv :=
  [(0, 1), (1, stateWord), (2, 13), (3, 45), (4, 0), (5, 0), (6, 0), (7, 0)]

/-- The store of a member with that record. -/
def withRecord (stateWord : Word) (s : State) : State :=
  (s.setArrays { s.arrays with bank0 := bankWith stateWord }).setStore
    { s.store with bank0 := ⟨.opened, false, [⟨1, 13⟩]⟩, openBank := some .bank0, appendPoint := 14, unread := 1 }

/-- A word program in progress. -/
def programming (p : Purpose) (a : Nat) (v meant : Word) (attempt : Nat) (s : State) : State :=
  s.setProgrammer { s.programmer with op := .word ⟨p, .bank0, a, v, meant, attempt⟩ }

/-- Two records of 13 words, 45 READ and 46 COMPLETE, in a bank with a header. -/
def bankOfTwo (header : Word) : Nv :=
  [(0, header), (1, 0xFFF8), (2, 13), (3, 45), (14, 0xFFFC), (15, 13), (16, 46)]

/-- One record of 13 words, 47 COMPLETE, in a bank with a header; header FFFFh is not written yet. -/
def bankOfOne (header : Word) : Nv :=
  (if header = 0xFFFF then [] else [(0, header)]) ++ [(1, 0xFFFC), (2, 13), (3, 47)]

/-- A member with an OPEN lock and records in both banks, bank 0 CLOSED and bank 1 OPEN. -/
def twoBanks (h0 h1 : Word) : State :=
  (openMember.setArrays ⟨bankOfTwo h0, bankOfOne h1, []⟩).setStore
    { State.reset.store with
      bank0 := ⟨.closed, false, [⟨1, 13⟩, ⟨14, 13⟩]⟩, bank1 := ⟨.opened, false, [⟨1, 13⟩]⟩
      openBank := some .bank1, appendPoint := 14, unread := 2 }

/-! ### Starts and the setup block -/

theorem test_start_reads_the_straps :
    (after (.start ⟨31, noStart.cut⟩) State.reset).membership.cause = .number
      ∧ (after (.start ⟨31, noStart.cut⟩) State.reset).pins.faultLow = true
      ∧ (after (.start ⟨30, noStart.cut⟩) State.reset).membership.state = .starting := by decide
theorem test_an_erased_block_fails_its_check :
    (after .setupValidation State.reset).setup.fault = .check
      ∧ (after .setupValidation State.reset).pins.faultLow = true := by decide
theorem test_an_empty_store_scans_to_next_1 : (after .startupScan State.reset).engine.next = 1 := by decide
theorem test_the_scan_reads_the_store :
    let t := after .startupScan (scanning (.classify .bank0) (bankWith 0xFFFC) [])
    t.store = { State.reset.store with
        bank0 := ⟨.opened, false, [⟨1, 13⟩]⟩, openBank := some .bank0, appendPoint := 14, unread := 1, scanned := true }
      ∧ t.engine.next = 46 ∧ t.programmer.op = .idle := by decide +kernel
theorem test_a_dirty_bank_is_erased_while_the_scan_goes_on :
    let t := after .startupScan (scanning (.classify .bank0) (bankWith 0xFFFE) [(0, 0)])
    t.programmer.op = .bankErase .bank1 0 ∧ t.store.voidQueue = [(.bank0, ⟨1, 13⟩)]
      ∧ t.store.bank0.state = .opened ∧ t.store.bank1.state = .erasing := by decide +kernel
theorem test_ticks_take_the_scan_on :
    let s := scanning (.walk .bank0 1) (bankWith 0xFFFE) []
    scanWords s.arrays s.store.scan.stage = 4
      ∧ (s.tick.tick.tick).store.scan.read = 3 ∧ (s.tick.tick.tick.tick).store.scan.stage = .walk .bank0 14
      ∧ (s.tick.tick.tick.tick).programmer.op = .word ⟨.voidMark, .bank0, 1, 0xFFF7, 0xFFF6, 1⟩ := by decide +kernel

theorem test_meets_IdleStepMovesOnlyClocks :
    State.reset.pending = [] ∧ State.reset.powered = true ∧ State.reset.store.scanned = false
      ∧ State.reset.store.scan.stage ≠ .decide
      ∧ State.reset.store.scan.read + 1 < scanWords State.reset.arrays State.reset.store.scan.stage
      ∧ member.pending = [] ∧ member.powered = true ∧ member.store.scanned = true
      ∧ (scanning .decide [] []).store.scan.stage = .decide := by decide
theorem test_durations_in_units_of_50_ns :
    let st := fun rate => { State.reset.settings with slotRate := rate }
    [5000, 10000, 20000, 40000].map (fun r => (slotUnits (st r), quarterUnits (st r)))
        = [(4000, 1000), (2000, 500), (1000, 250), (500, 125)]
      ∧ [Operation.word ⟨.header, .bank0, 0, 1, 1, 1⟩, .pulse (.program 26 0 4 true), .pulse (.erase 8 true),
          .bankErase .bank0 1].map operationUnits = [600, 4000, 100000, 916984]
      ∧ sampleTime State.reset.settings 8 = 32 ∧ sampleTime State.reset.settings 9 = 32
      ∧ sampleTime State.reset.settings 7 = State.reset.settings.sampleTimes[7] := by decide
theorem test_the_input_converted :
    let st := { State.reset.settings with survey := [4, 5], segment := 2, burst := [6, 7] }
    let q := fun c => ({ State.reset.sequencer with
      converter := c, pass := some ⟨0, [9]⟩, repetition := some ⟨45, 0, 0, 1⟩ } : Sequencer)
    convertedInput st (q .idle) = none ∧ convertedInput st (q .survey) = some 5
      ∧ convertedInput st (q .burst) = some 7 ∧ (convertedInput st (q .sense)).isSome = true := by decide
theorem test_meets_IdleStepMovesOnlyClocks_last_word :
    ∃ s u : State, s.pending = [] ∧ s.powered = true ∧ s.store.scanned = false ∧ s.store.scan.stage ≠ .decide
      ∧ scanWords s.arrays s.store.scan.stage ≤ s.store.scan.read + 1 ∧ u.pending = [] ∧ u.powered = false :=
  ⟨scanning (.walk .bank1 14) [] (bankWith 0xFFFC), State.reset.setPowered false, by decide +kernel⟩
theorem test_meets_IdleStepMovesOnlyClocks_moves :
    (aligned .member).line.awaitsCommand 1 = true ∧ member.line.align = .aligned
      ∧ member.line.awaitsCommand member.settings.density = false ∧ (capturing 3).line.awaitsCommand 1 = true
      ∧ member.line.phaseTime + 1 < quarterUnits member.settings
      ∧ convertedInput member.settings member.sequencer = none
      ∧ convertedInput member.settings { member.sequencer with converter := .sense } = some 0 := by decide
theorem test_meets_IdleStepMovesOnlyClocks_slot_ends :
    ∃ s u v : State, s.line.align = .aligned ∧ s.line.awaitsCommand s.settings.density = false
      ∧ quarterUnits s.settings ≤ s.line.phaseTime + 1 ∧ s.line.phase = .q4 ∧ s.line.position = 37
      ∧ u.line.align = .aligned ∧ u.line.awaitsCommand u.settings.density = false
      ∧ quarterUnits u.settings ≤ u.line.phaseTime + 1 ∧ u.line.phase = .q4 ∧ u.line.position ≠ 37
      ∧ v.line.align = .aligned ∧ v.line.awaitsCommand v.settings.density = false
      ∧ quarterUnits v.settings ≤ v.line.phaseTime + 1 ∧ v.line.phase ≠ .q4 :=
  ⟨member.setLine { member.line with phase := .q4, phaseTime := 999, position := 37 },
    member.setLine { member.line with phase := .q4, phaseTime := 999 },
    member.setLine { member.line with phaseTime := 999 }, by decide⟩
theorem test_meets_IdleStepMovesOnlyClocks_erase_goes_on :
    let s := (scanning (.walk .bank0 1) (bankWith 0xFFFE) []).setProgrammer
      { State.reset.programmer with op := .bankErase .bank1 0 }
    s.pending = [] ∧ s.powered = true ∧ s.store.scanned = false ∧ s.store.scan.stage ≠ .decide
      ∧ s.store.scan.read + 1 < scanWords s.arrays s.store.scan.stage ∧ s.tick.programmer.elapsed = 1
      ∧ s.tick.tick.tick.tick.programmer.elapsed = 4 := by decide +kernel
theorem test_timers_wait_at_their_limits :
    Timer.up 500 76 ⟨76, 3⟩ = ⟨76, 3⟩ ∧ Timer.up 500 76 ⟨75, 499⟩ = ⟨76, 0⟩ ∧ Timer.down 500 ⟨1, 499⟩ = ⟨0, 0⟩
      ∧ Timer.down 500 ⟨0, 0⟩ = ⟨0, 0⟩ := by decide
theorem test_meets_PowerLossAndItsCut :
    State.reset.arrays.wf = true ∧ (⟨.commitWord, .bank1, 16383, 0, 0, 1⟩ : WordOp).address < Config.bankWords := by
  decide
theorem test_meets_PowerLossAndItsCut_other_operations :
    let m : Arrays := ⟨bankWith 0xFFFC, [(0, 2)], [(30, 0x00FF)]⟩
    let c : Cut := ⟨0xF000, false, true, [(1, 0x0002), (30, 0x8000)], false⟩
    m.wf = true ∧ 30 < Config.setupWords ∧ (m.cutOff (.pulse (.program 30 0 3 true)) c) = m
      ∧ (m.cutOff (.pulse (.erase 7 true)) c) = m
      ∧ (m.cutOff (.pulse (.program 30 0x0F0F 4 true)) c).setup = [(30, 0x000F)]
      ∧ (m.cutOff (.pulse (.erase 8 true)) c).setup = [(30, 0x7FFF)]
      ∧ (m.cutOff (.bankErase .bank0 1) c).bank0 = [(1, 0xFFFD)]
      ∧ (m.cutOff (.bankErase .bank0 1) { c with headerErased := false }).bank0 = [(0, 0), (1, 0xFFFD)]
      ∧ nvRead (m.cutOff (.bankErase .bank1 0x1002) { c with condemning := true }).bank1 0 = 0x1000 := by decide +kernel
theorem test_meets_PowerLossAndItsCut_header_write :
    let m : Arrays := ⟨[], [], []⟩
    let cut := fun (bits : Word) (dirty : Bool) =>
      (m.cutOff (.word ⟨.header, .bank0, 0, 1, 1, 1⟩) ⟨bits, false, false, [], dirty⟩).bank0
    m.wf = true ∧ classifyBank (cut 0xFFFF false) = .fresh ∧ classifyBank (cut 0 false) = .sequence 1
      ∧ classifyBank (cut 0x00F0 false) = .sequence 0x00F1 ∧ classifyBank (cut 0xFFFF true) = .dirty := by decide
theorem test_a_bank_left_dirty_is_erased_at_the_next_start :
    let s := State.reset.setProgrammer { State.reset.programmer with op := .word ⟨.header, .bank1, 0, 1, 1, 1⟩ }
    let t := after .startupScan (after (.start ⟨11, ⟨0, false, false, [], true⟩⟩) s)
    t.store.bank1.state = .erasing ∧ t.programmer.op = .bankErase .bank1 0 ∧ t.store.bank0.state = .fresh := by
  decide +kernel
theorem test_meets_ValidationFormsTheWorkingCopy_check :
    State.reset.powered = true ∧ State.reset.setup.validated = false ∧ setupCheckGood State.reset.arrays.setup = false
      ∧ State.reset.membership.state = .starting ∧ State.reset.store.scanned = false := by decide
theorem test_meets_ValidationFormsTheWorkingCopy_range :
    setupCheckGood (block (List.replicate 30 0)) = true ∧ inRange (nvRead (block (List.replicate 30 0))) = false := by
  decide +kernel
theorem test_meets_ValidationFormsTheWorkingCopy_none :
    setupCheckGood (block goodWords) = true ∧ inRange (nvRead (block goodWords)) = true := by decide +kernel
theorem test_meets_ValidationFormsTheWorkingCopy_last :
    (after .startupScan State.reset).membership.state = .starting ∧ (after .startupScan State.reset).store.scanned = true
      ∧ (after .startupScan State.reset).setup.validated = false := by decide
/-- The words of a block in range, but for one. -/
def goodBut (k : Nat) (v : Word) : Nat → Word := fun i => (goodWords.set k v).getD i 0
theorem test_range_checks_at_their_limits :
    inRange (goodBut 1 0xCC20) = true ∧ inRange (goodBut 1 0xD420) = false ∧ inRange (goodBut 1 0x0020) = false
      ∧ inRange (goodBut 1 0x4520) = false ∧ inRange (goodBut 1 0x4020) = false ∧ inRange (goodBut 2 0x0270) = true
      ∧ inRange (goodBut 2 0x0300) = false ∧ inRange (goodBut 2 0x0080) = false ∧ inRange (goodBut 4 0x2A00) = false
      ∧ inRange (goodBut 5 0xAA00) = true ∧ inRange (goodBut 9 0x9AAA) = true ∧ inRange (goodBut 9 0xA000) = false
      ∧ inRange (goodBut 24 0xF000) = true ∧ inRange (goodBut 25 0xF000) = true
      ∧ inRange (goodBut 24 0x0001) = true ∧ inRange (fun i => if i = 24 then 1 else goodBut 25 0 i) = false := by
  decide +kernel
theorem test_meets_ValidationFormsTheWorkingCopy_codes :
    (storedSettings (goodBut 0 0xD4C0)).slotRate = 40000 ∧ (storedSettings (goodBut 0 0xD4C0)).rollPeriod = 256
      ∧ (storedSettings (goodBut 0 0xD4C0)).policy = .overwrite ∧ (storedSettings (goodBut 0 0xD4C0)).openTimeout = none
      ∧ (storedSettings (goodBut 2 0xF67B)).postLength = 16 ∧ (storedSettings (goodBut 2 0xF67B)).burst = [0, 0]
      ∧ (storedSettings (goodBut 2 0xF67B)).density = 4 ∧ (storedSettings (goodBut 2 0xF67B)).senseInput = 7
      ∧ (storedSettings (goodBut 2 0xF67B)).sensePeriod = 256 ∧ (storedSettings (goodBut 2 0xF67B)).forcedWake = some 60
      ∧ (storedSettings (goodBut 3 0x0900)).survey = [0, 9, 2, 3] := by decide +kernel
theorem test_code_1_is_8_us : (storedSettings (nvRead (block goodWords))).sampleTimes = Vector.replicate 8 8 := by
  decide +kernel
theorem test_meets_ScanRebuildsTheStoreAndNext_last :
    let s := (after .setupValidation State.reset).setStore (scanning .decide [] []).store
    s.powered = true ∧ s.store.scanned = false ∧ s.store.scan.stage = .decide ∧ s.membership.state = .starting
      ∧ s.setup.validated = true ∧ s.store.scan.value0 = none ∧ s.store.scan.value1 = none := by decide
theorem test_meets_ScanRebuildsTheStoreAndNext_first :
    State.reset.store.scanned = false ∧ State.reset.setup.validated = false := by decide
theorem test_meets_ScanRebuildsTheStoreAndNext_banks :
    classifyBank [] = .fresh ∧ classifyBank [(0, 0)] = .dirty ∧ classifyBank [(5, 1)] = .dirty
      ∧ classifyBank [(0, 65534), (1, 1)] = .sequence 65534 ∧ classifyBank (bankWith 0xFFFC) = .sequence 1 := by
  decide +kernel
theorem test_meets_ScanRebuildsTheStoreAndNext_classify :
    ∃ s t u : State, s.store.scan.stage = .classify .bank0
      ∧ t.store.scan.stage = .classify .bank1 ∧ t.store.scan.value0 ≠ none
      ∧ u.store.scan.stage = .classify .bank1 ∧ u.store.scan.value0 = none :=
  ⟨scanning (.classify .bank0) [] [], (scanning (.classify .bank0) (bankWith 0xFFFC) []).scanStage,
    scanning (.classify .bank1) [] [], by decide +kernel⟩
theorem test_meets_ScanRebuildsTheStoreAndNext_walk :
    let s := scanning (.walk .bank0 1)
    (s (bankWith 0xFFFE) []).store.scan.stage = .walk .bank0 1
      ∧ recordState (nvRead (bankWith 0xFFFE) 1) = .started ∧ recordState (nvRead (bankWith 0xFFFC) 1) = .complete
      ∧ recordState (nvRead [(0, 1)] 1) = .free ∧ recordState (nvRead [(0, 1), (1, 0xFFFD)] 1) = .stray
      ∧ (nvRead (bankWith 0xFFFE) 2).toNat = 13 ∧ (nvRead [(0, 1), (1, 0xFFFE)] 2).toNat = 65535
      ∧ validLength 16371 13 = true ∧ validLength 16372 13 = false ∧ validLength 1 726 = true
      ∧ validLength 1 727 = false ∧ validLength 1 12 = false := by decide +kernel
theorem test_meets_ScanRebuildsTheStoreAndNext_newer :
    newerBySequence 65534 1 = .bank1 ∧ newerBySequence 1 65534 = .bank0 ∧ newerBySequence 5 6 = .bank1
      ∧ newerBySequence 6 5 = .bank0 ∧ newerBySequence 3 9 = .bank1 ∧ newerBySequence 9 3 = .bank0
      ∧ newerBySequence 4 4 = .bank0 := by decide
theorem test_meets_ScanRebuildsTheStoreAndNext_decide :
    ∃ s t : State, s.powered = true ∧ s.store.scanned = false ∧ s.store.scan.stage = .decide
      ∧ s.store.scan.value .bank1 = some 2 ∧ s.store.scan.value .bank0 = some 1 ∧ (1 : Word) ≠ sequenceSuccessor 2
      ∧ (2 : Word) = sequenceSuccessor 1 ∧ s.store.scan.append .bank1 = some 14
      ∧ t.store.scan.stage = .decide ∧ t.store.scan.value .bank0 = some 1 ∧ t.store.scan.value .bank1 = none
      ∧ t.store.scan.append .bank0 = none :=
  ⟨(scanning .decide [] []).setStore { State.reset.store with scan := ⟨.decide, 0, some 1, some 2, some 14, some 14, 0⟩ },
    (scanning .decide [] []).setStore { State.reset.store with scan := ⟨.decide, 0, some 1, none, none, none, 0⟩ },
    by decide⟩

theorem test_record_states :
    [0xFFFF, 0xFFFE, 0xFFFC, 0xFFF8, 0xFFF6, 0xFFF4, 0xFFF0, 0xFFFA, 0xFFFD, 0xFFF7].map (recordState ·)
      = [.free, .started, .complete, .read, .void, .void, .void, .started, .stray, .stray] := by decide
theorem test_bank_classifications :
    [[], [(0, 0)], [(16383, 0)], [(0, 1)], [(0, 65534)]].map classifyBank
        = [.fresh, .dirty, .dirty, .sequence 1, .sequence 65534]
      ∧ [[], [(0, 0)], [(16383, 0)], [(0, 1)], [(0, 65534)]].all (nvWf 16384) = true := by decide
theorem test_sequence_successor :
    sequenceSuccessor 1 = 2 ∧ sequenceSuccessor 65533 = 65534 ∧ sequenceSuccessor 65534 = 1 := by decide
/-- The merge list of record 45: 40, FFFFh and 65,534 by a count of 3. -/
theorem test_record_numbers_of_a_merge_list :
    let m := fun count : Word => ([(3, 45), (7, count <<< 5), (11, 40), (13, 65534)] : Nv)
    recordNumbers (m 3) ⟨1, 14⟩ = [45, 40, 65534] ∧ recordNumbers (m 1) ⟨1, 14⟩ = [45, 40]
      ∧ recordNumbers (m 0) ⟨1, 14⟩ = [45] ∧ recordNumbers (m 4) ⟨1, 14⟩ = [45, 40, 65534]
      ∧ recordNumbers (m 4) ⟨1, 13⟩ = [45] ∧ recordNumbers (m 5) ⟨1, 20⟩ = [45]
      ∧ recordNumbers [(7, 0x0020), (11, 40)] ⟨1, 14⟩ = [40] ∧ recordNumbers [(7, 0)] ⟨1, 14⟩ = [] := by decide

/-! ### The line -/

theorem test_interval_classes :
    classify 74 = .broken ∧ classify 75 = .single ∧ classify 125 = .single ∧ classify 126 = .broken
      ∧ classify 174 = .broken ∧ classify 175 = .double ∧ classify 225 = .double ∧ classify 226 = .broken := by decide
theorem test_second_mark_joins :
    (after (.markSearchEdge 200) (searcher ⟨true, some 36⟩)).membership.state = .joining
      ∧ (after (.markSearchEdge 200) (searcher ⟨true, some 35⟩)).line.search = ⟨true, some 0⟩ := by decide
theorem test_meets_SearchFindsTheMarks_first_edge :
    (searcher ⟨false, none⟩).powered = true ∧ (searcher ⟨false, none⟩).searching = true := by decide
theorem test_meets_SearchFindsTheMarks_counts :
    (searcher ⟨true, none⟩).searching = true ∧ (searcher ⟨true, some 35⟩).searching = true
      ∧ (searcher ⟨true, some 36⟩).searching = true ∧ (searcher ⟨true, some 36⟩).line.search.singles = some 36 := by decide
theorem test_meets_SilenceThenBackoffThenOpening :
    ((after (.silenceTimerExpiry true 63) (searcher ⟨true, none⟩)).powered = true)
      ∧ (after (.silenceTimerExpiry true 63) (searcher ⟨true, none⟩)).line.align = .silent
      ∧ (after (.silenceTimerExpiry true 63) (searcher ⟨true, none⟩)).membership.state = .seeking
      ∧ (after (.silenceTimerExpiry true 63) (searcher ⟨true, none⟩)).line.backoff = some ⟨71, 0⟩ := by decide
theorem test_meets_EdgesCostTheAlignmentOrResynchronise :
    (LineEdge.fall 0 .q1).isForeign = true ∧ (LineEdge.lowThroughQ1 37).isForeign = true
      ∧ member.powered = true ∧ member.line.align = .aligned ∧ member.onLine = true ∧ joiner.onLine = true
      ∧ joiner.line.align = .aligned ∧ member.membership.syncLosses + 1 < 3 := by decide
theorem test_meets_EdgesCostTheAlignmentOrResynchronise_third :
    ∃ s : State, s.powered = true ∧ s.line.align = .aligned ∧ s.onLine = true ∧ s.membership.state = .member
      ∧ 3 ≤ s.membership.syncLosses + 1 :=
  ⟨member.setMembership { member.membership with syncLosses := 2 }, by decide⟩
theorem test_meets_EdgesCostTheAlignmentOrResynchronise_capturing :
    (capturing 3).powered = true ∧ (capturing 3).line.align = .aligned ∧ (capturing 3).onLine = true
      ∧ (capturing 3).engine.state = .capturing ∧ (capturing 3).line.round = some captureOffers
      ∧ (capturing 3).staging.fillingSlot = some (.slot0, addBlock openConstruction)
      ∧ (after (.foreignPulse (.lowThroughQ1 5)) (capturing 3)).engine.firstMissed = 45
      ∧ (after .driverFault (capturing 3)).staging.slot0 = .empty := by decide +kernel
theorem test_third_sync_loss_withdraws :
    (after (.foreignPulse (.fall 0 .q1)) (member.setMembership { member.membership with syncLosses := 2 })).membership.cause
      = .sync := by decide
theorem test_a_departure_clears_the_trip_counts_only :
    let s := member.setMonitors ⟨Vector.replicate 8 ⟨2, false, true⟩, true⟩
    (after (.foreignPulse (.lowThroughQ1 3)) s).monitors = ⟨Vector.replicate 8 ⟨0, false, true⟩, true⟩
      ∧ (after .driverFault s).monitors = ⟨Vector.replicate 8 ⟨0, false, true⟩, true⟩ := by decide +kernel
theorem test_meets_DriverFaultWithdrawsTheStation :
    member.powered = true ∧ member.line.round = some quietOffers
      ∧ joiner.powered = true ∧ joiner.onLine = true ∧ joiner.line.round = some (probeOffers 0x1234)
      ∧ settleOffer joiner.membership.number (probeOffers 0x1234) ⟨.quiet, released, 0⟩ = none := by decide +kernel
theorem test_a_probe_sends_its_number_first : sentBit 11 (probeOffers 0x1234) [false, false, true, true, false] 6 = false
    ∧ sentBit 11 (probeOffers 0x1234) [false, false, true, true, false, false] 7 = true := by decide +kernel
theorem test_a_body_of_zeros_has_check_0 : checkGood .epoch 0 = true ∧ checkGood .epoch 1 = false := by decide +kernel

/-- A member in a data slot of its round, in a quarter. -/
def driving (o : Offers) (slot : Fin 38) (q : Quarter) : State :=
  (inRound .member o).setLine { (inRound .member o).line with position := slot, phase := q }
theorem test_meets_MarkSlotTakesTheOffers_pin :
    (driving quietOffers 6 .q2).line.pattern = none ∧ (driving quietOffers 6 .q2).line.align = .aligned
      ∧ (driving quietOffers 6 .q2).onLine = true ∧ (driving quietOffers 0 .q2).line.position = 0
      ∧ (driving quietOffers 6 .q3).line.round = some quietOffers ∧ (driving quietOffers 6 .q2).pullsLine [] = true
      ∧ (after .forcedWakeExpiry resting).line.pattern = some 0
      ∧ (after .forcedWakeExpiry resting).line.align ≠ .aligned ∧ resting.line.pattern = none
      ∧ (after .forcedWakeExpiry resting).pullsLine [] = true := by decide
theorem test_meets_MarkSlotTakesTheOffers_sent :
    sampledKind [false, false, false] = kindCode .incident ∧ sampledKind [false, false, true] = kindCode .probe
      ∧ sampledKind [false, true, false] = kindCode .roll ∧ sampledKind [true, false, false] = kindCode .reply
      ∧ sampledKind [true, true, true] = kindCode .quiet
      ∧ offeredKind (.roll) = some .roll ∧ offeredKind .none = none := by decide
theorem test_an_incident_withdraws_field_by_field :
    let o : Offers := { quietOffers with kind := .incident ⟨45, 3, 7, 91⟩ }
    let low := [false, false, false, true, true, false]
    sentBit 11 o low 7 = true ∧ sentBit 11 o (low ++ List.replicate 15 false) 22 = false := by decide +kernel
theorem test_meets_DriverFaultWithdrawsTheStation_settled :
    settleOffer 11 (probeOffers 0x1234) ⟨.quiet, released, 0⟩ = none
      ∧ settleOffer 11 quietOffers ⟨.quiet, awake, 0⟩ = some .none
      ∧ settleOffer 11 (probeOffers 0x1234) ⟨.incident, awake, 0⟩ = some .lostKind
      ∧ settleOffer 11 { quietOffers with kind := .roll } ⟨.roll, awake, 0xFFEFFFFF⟩ = some .won
      ∧ settleOffer 11 (probeOffers 0x1234) ⟨.probe, awake, probeBits 11 0x1234 ++ 7#3⟩ = some .won
      ∧ settleOffer 11 (probeOffers 0x1234) ⟨.probe, awake, probeBits 10 0x1234 ++ 7#3⟩ = some (.withdrew 4)
      ∧ settleOffer 11 { quietOffers with kind := .reply ⟨.data, 7⟩ } ⟨.reply, awake, replyBody 11 ⟨.data, 7⟩⟩
          = some .won
      ∧ settleOffer 11 { quietOffers with kind := .reply ⟨.data, 7⟩ } ⟨.reply, awake, replyBody 10 ⟨.data, 7⟩⟩
          = some (.withdrew 4)
      ∧ (sampledSlots ⟨.quiet, released, 0⟩).length = 37 := by decide +kernel

/-! ### Within a round -/

theorem test_meets_MarkSlotTakesTheOffers_joining :
    (aligned .joining).powered = true ∧ (aligned .joining).line.align = .aligned ∧ (aligned .joining).onLine = true
      ∧ (aligned .joining).line.round = none ∧ (aligned .joining).membership.state = .joining := by decide
theorem test_meets_MarkSlotTakesTheOffers_member :
    (aligned .member).line.round = none ∧ (aligned .member).membership.state = .member
      ∧ (aligned .member).engine.due = false
      ∧ (aligned .member).membership.rollTimer ≠ (aligned .member).settings.rollPeriod
      ∧ (aligned .member).orders.outbox = none ∧ (aligned .member).engine.state = .idle := by decide
theorem test_meets_MarkSlotTakesTheOffers_due :
    ∃ s : State, s.powered = true ∧ s.line.align = .aligned ∧ s.onLine = true ∧ s.line.round = none
      ∧ s.membership.state = .member ∧ s.engine.due = true :=
  ⟨(aligned .member).setEngine { State.reset.engine with due := true }, by decide⟩
theorem test_meets_MarkSlotTakesTheOffers_tripped :
    ∃ s : State, s.powered = true ∧ s.line.align = .aligned ∧ s.onLine = true ∧ s.line.round = none
      ∧ s.membership.state = .member ∧ s.engine.due = true ∧ s.engine.state = .idle ∧ s.engine.exhausted = false
      ∧ s.staging.slot0 = .empty ∧ lowestTripped s.monitors = some 3
      ∧ (s.takeOffers 0).claims = true ∧ s.incidentOffer.origin = 91 :=
  ⟨((aligned .member).setEngine { State.reset.engine with due := true }).setMonitors
    { State.reset.monitors with inputs := State.reset.monitors.inputs.set 3 ⟨1, false, true⟩ }, by decide⟩
theorem test_meets_MarkSlotTakesTheOffers_roll :
    ∃ s : State, s.powered = true ∧ s.line.align = .aligned ∧ s.onLine = true ∧ s.line.round = none
      ∧ s.membership.state = .member ∧ s.engine.due = false ∧ s.membership.rollTimer = s.settings.rollPeriod :=
  ⟨(aligned .member).setMembership { (aligned .member).membership with rollTimer := 256 }, by decide⟩
theorem test_meets_MarkSlotTakesTheOffers_reply :
    ∃ s : State, s.powered = true ∧ s.line.align = .aligned ∧ s.onLine = true ∧ s.line.round = none
      ∧ s.membership.state = .member ∧ s.engine.due = false ∧ s.membership.rollTimer ≠ s.settings.rollPeriod
      ∧ s.orders.outbox = some ⟨.done, 0⟩ :=
  ⟨(aligned .member).setOrders { State.reset.orders with outbox := some ⟨.done, 0⟩ }, by decide⟩
theorem test_meets_MarkSlotTakesTheOffers_capturing :
    ∃ (s : State) (x : SlotId × Construction), s.powered = true ∧ s.line.align = .aligned ∧ s.onLine = true
      ∧ s.line.round = none ∧ s.engine.state = .capturing ∧ s.staging.fillingSlot = some x :=
  ⟨(capturing 3).setLine { (capturing 3).line with round := none }, (.slot0, addBlock openConstruction), by decide +kernel⟩
/-- A station whose survey list and segment size are these. -/
def surveying (survey : List Input) (segment : Nat) (s : State) : State :=
  s.setSetup { s.setup with working := { s.settings with survey := survey, segment := segment } }
theorem test_meets_MarkSlotTakesTheOffers_survey :
    let s := aligned .member
    let u := surveying [] 1 s
    s.powered = true ∧ s.onLine = true ∧ s.line.round = none ∧ s.engine.state = .idle ∧ s.sequencer.repetition = none
      ∧ nextEntry s.settings ⟨s.sequencer.pointer, []⟩ ≠ none ∧ u.engine.state = .idle
      ∧ u.line.round = none ∧ nextEntry u.settings ⟨u.sequencer.pointer, []⟩ = none
      ∧ (after (.markSlot 0) s).sequencer.converter = .survey := by decide
theorem test_the_survey_of_a_capture_round_waits :
    (after (.markSlot 0) ((capturing 3).setLine { (capturing 3).line with round := none })).sequencer.converter = .idle := by
  decide
theorem test_a_member_that_may_rest_is_ready :
    let s := member.setSetup { member.setup with working := { defaultSettings openKey with dormancyAllowed := true } }
    s.readyToRest = true ∧ (s.setLock .opened).readyToRest = false := by decide
theorem test_meets_SurveySampleJoinsThePass :
    let s := after (.markSlot 0) (aligned .member)
    s.powered = true ∧ s.sequencer.converter = .survey ∧ s.sequencer.pass = some ⟨0, []⟩
      ∧ nextEntry s.settings ⟨0, []⟩ = some 0 := by decide
theorem test_meets_SurveySampleJoinsThePass_next_entry :
    let p : PassUnderWay := ⟨0, [5]⟩
    nextEntry member.settings p ≠ none ∧ nextEntry (surveying [0, 1] 1 member).settings p = none
      ∧ nextEntry (surveying [0, 1] 1 member).settings ⟨1, []⟩ = some 1 := by decide
theorem test_meets_SurveySampleJoinsThePass_internal :
    ∃ (s : State) (p : PassUnderWay), s.powered = true ∧ s.sequencer.converter = .survey ∧ s.sequencer.pass = some p
      ∧ nextEntry s.settings p = some 8 :=
  ⟨((aligned .member).setSetup { (aligned .member).setup with
      working := { defaultSettings openKey with survey := [8], segment := 1 } }).setSequencer
        { State.reset.sequencer with converter := .survey, pass := some ⟨0, []⟩ }, ⟨0, []⟩, by decide⟩
theorem test_the_lowest_of_the_trip_set :
    let ms := fun l : List Nat => ({ State.reset.monitors with
      inputs := Vector.ofFn fun i : Fin 8 => ⟨0, true, l.contains i.val⟩ } : Monitors)
    lowestTripped (ms []) = none ∧ lowestTripped (ms [7]) = some 7 ∧ lowestTripped (ms [6, 2, 5]) = some 2
      ∧ lowestTripped (ms [0, 7]) = some 0 := by decide
theorem test_a_window_holds_its_limits :
    let w : Window := ⟨100, 200⟩
    w.inside 99 = false ∧ w.inside 100 = true ∧ w.inside 200 = true ∧ w.inside 201 = false
      ∧ (⟨150, 150⟩ : Window).inside 150 = true ∧ (⟨0, 4095⟩ : Window).inside 4095 = true := by decide
theorem test_meets_MonitorTripsOnTheSettingsCount :
    let st := { defaultSettings openKey with windows := Vector.replicate 8 ⟨100, 200⟩ }
    let w := st.windows[(0 : Fin 8)]
    w.inside 99 = false ∧ w.inside 100 = true ∧ w.inside 200 = true ∧ w.inside 201 = false
      ∧ (0 : Nat) + 1 < st.trip ∧ (1 : Nat) + 1 = st.trip ∧ st.trip ≤ 2 := by decide
theorem test_meets_BurstsFillTheirPositions_points :
    (capturing 3).powered = true ∧ (capturing 3).atBurstPoint 0 = true ∧ (capturing 3).atBurstPoint 1 = false
      ∧ (capturing 3).line.round = some captureOffers ∧ (capturing 3).sequencer.repetition = none
      ∧ (after (.burstPoint 0) (capturing 3)).atBurstPoint 0 = false
      ∧ (after (.burstPoint 0) (capturing 3)).sequencer.repetition ≠ none := by decide
/-- The capture round at density 4, its timing at a slot and its points taken up to one. -/
def dense (position : Fin 38) (taken : Nat) : State :=
  ((capturing 3).setSetup { (capturing 3).setup with working := { defaultSettings openKey with density := 4 } }).setLine
    { (capturing 3).line with position := position, burstPoints := taken }
theorem test_burst_points_come_at_their_slots :
    [0, 1, 2, 3].map (burstSlot 4) = [0, 9, 19, 28] ∧ [0, 1].map (burstSlot 2) = [0, 19] ∧ burstSlot 1 0 = 0
      ∧ (after (.burstPoint 2) (dense 10 2)).line.position = 19
      ∧ (after (.burstPoint 3) (dense 10 2)).line.burstPoints = 2 := by decide
theorem test_meets_BurstsFillTheirPositions_order :
    (dense 10 2).atBurstPoint 2 = true ∧ (dense 10 2).atBurstPoint 3 = false ∧ (dense 10 2).atBurstPoint 1 = false
      ∧ (dense 10 0).atBurstPoint 1 = false ∧ (dense 10 0).atBurstPoint 2 = true ∧ (dense 29 0).atBurstPoint 3 = false
      ∧ ((dense 19 2).setSequencer { (dense 19 2).sequencer with repetition := some ⟨45, 0, 1, 0⟩ }).atBurstPoint 2
          = true := by decide
theorem test_the_tick_waits_at_a_burst_point :
    (dense 19 2).tick.line = (dense 19 2).line ∧ (dense 19 3).tick.line.phaseTime = 1 := by decide
theorem test_meets_BurstsFillTheirPositions_values :
    let s := after (.burstPoint 0) (capturing 3)
    s.powered = true ∧ s.sequencer.converter = .burst ∧ s.sequencer.repetition = some ⟨45, 0, 0, 0⟩
      ∧ s.staging.fillingSlot = some (.slot0, addBlock openConstruction) ∧ s.settings.burst.length ≤ 0 + 1 := by
  decide +kernel
theorem test_meets_BurstsFillTheirPositions_second_entry :
    let s := (after (.burstPoint 0) (capturing 3)).setSetup
      { (capturing 3).setup with working := { defaultSettings openKey with burst := [0, 1] } }
    s.sequencer.converter = .burst ∧ s.sequencer.repetition = some ⟨45, 0, 0, 0⟩ ∧ 0 + 1 < s.settings.burst.length := by
  decide
theorem test_meets_BurstsFillTheirPositions_survey_resumes :
    let s := after (.burstPoint 0) (after (.markSlot 0) ((capturing 3).setLine { (capturing 3).line with round := none }))
    s.sequencer.converter = .burst ∧ s.sequencer.repetition = some ⟨45, 0, 0, 0⟩ ∧ s.settings.burst.length ≤ 0 + 1
      ∧ s.sequencer.pass = some ⟨0, []⟩ ∧ nextEntry s.settings ⟨0, []⟩ ≠ none
      ∧ nextEntry (surveying [] 1 s).settings ⟨0, []⟩ = none
      ∧ (after (.burstPoint 0) (capturing 3)).sequencer.pass = none
      ∧ (after (.burstConversionDone 5) s).sequencer.converter = .survey := by decide +kernel
theorem test_deltas_and_raw_samples :
    burstValue (some 100) 97 = 0xFFFD ∧ burstValue (some 100) 140 = 0x0028 ∧ burstValue none 4095 = 0x0FFF
      ∧ burstValue (some 4095) 0 = 0xF001 := by decide
theorem test_meets_BurstsFillTheirPositions_places :
    let c := { addBlock openConstruction with blocks := [[0x8000, 5], [0x8000, 0x8000]], density := 2 }
    c.primary = 45 ∧ (placeBurst ⟨45, 0, 0, 0⟩ 7 c).blocks = [[7, 5], [0x8000, 0x8000]]
      ∧ (placeBurst ⟨45, 1, 1, 0⟩ 7 c).blocks = [[0x8000, 5], [0x8000, 7]] ∧ placeBurst ⟨44, 0, 0, 0⟩ 7 c = c := by
  decide +kernel

/-! ### Round ends -/

theorem test_meets_RoundEndMovesTheRoundCount :
    member.EndsRound quietOffers ⟨.quiet, awake, 0⟩ .none ∧ member.restarts ⟨.quiet, awake, 0⟩ = false := by
  unfold State.EndsRound; decide +kernel
theorem test_meets_RoundEndMovesTheRoundCount_rest :
    member.StaysAwake true ∧ member.StaysAwake false ∧ member.EndsRound quietOffers ⟨.quiet, ⟨true, false⟩, 0⟩ .none
      ∧ (after (.quietRound ⟨true, false⟩ false 0) member).onLine = true
      ∧ (after (.quietRound ⟨true, false⟩ false 0) member).rest.count = 1
      ∧ (after (.quietRound ⟨true, false⟩ false 0) member).engine.due = true
      ∧ (after (.probeRound awake (probeBits 11 0x1234 ++ 3#3)) joiner).onLine = false := by
  unfold State.EndsRound State.StaysAwake; decide +kernel
theorem test_meets_RoundEndMovesTheRoundCount_aligned_within_the_round :
    let s := (station .joining).setLine { State.reset.line with align := .aligned, position := 37, phase := .q4, count := 9 }
    let t := after (.epochRound awake (framedBody 0x000123)) s
    s.powered = true ∧ s.line.align = .aligned ∧ s.onLine = true ∧ s.line.round = none ∧ t.line.count = 9
      ∧ t.line.position = 0 ∧ (after (.markSlot 5) t).line.round.isSome = true := by decide +kernel
theorem test_meets_RoundEndMovesTheRoundCount_epoch :
    member.EndsRound quietOffers ⟨.epoch, awake, 0⟩ .none ∧ member.restarts ⟨.epoch, awake, 0⟩ = false
      ∧ checkGood .epoch (0 : Body) = true ∧ checkGood .epoch (1 : Body) = false := by
  unfold State.EndsRound; decide +kernel
theorem test_epoch_sets_the_count :
    (after (.epochRound awake (framedBody 0x123456)) member).line.count = 0x123456
      ∧ (after (.epochRound awake 1) member).line.count = 1 := by decide +kernel
theorem test_meets_PassJoinsTheRing :
    ∃ s : State, s.EndsRound quietOffers ⟨.quiet, awake, 0⟩ .none ∧ s.sequencer.pass = some ⟨0, [7]⟩
      ∧ s.restarts ⟨.quiet, awake, 0⟩ = false ∧ s.StaysAwake true ∧ s.membership.state = .member :=
  ⟨member.setSequencer { State.reset.sequencer with pass := some ⟨0, [7]⟩ }, by
    unfold State.EndsRound State.StaysAwake; decide +kernel⟩
theorem test_meets_PassJoinsTheRing_bad_epoch :
    ∃ s : State, s.EndsRound quietOffers ⟨.epoch, awake, 1⟩ .none ∧ s.sequencer.pass = some ⟨0, [7]⟩
      ∧ s.restarts ⟨.epoch, awake, 1⟩ = false ∧ checkGood .epoch (1 : Body) = false :=
  ⟨member.setSequencer { State.reset.sequencer with pass := some ⟨0, [7]⟩ }, by
    unfold State.EndsRound; decide +kernel⟩
theorem test_meets_PassJoinsTheRing_joining :
    ∃ s : State, s.EndsRound (probeOffers 0x1234) ⟨.incident, awake, 0⟩ .lostKind ∧ s.sequencer.pass = some ⟨0, [7]⟩
      ∧ s.restarts ⟨.incident, awake, 0⟩ = false ∧ s.StaysAwake true
      ∧ probeResult ⟨.incident, awake, 0⟩ .lostKind ≠ .duplicate :=
  ⟨joiner.setSequencer { State.reset.sequencer with pass := some ⟨0, [7]⟩ }, by
    unfold State.EndsRound State.StaysAwake; decide +kernel⟩
theorem test_meets_PassJoinsTheRing_pointer_and_ring :
    let st := (surveying (List.replicate 12 3) 5 member).settings
    let p : Pass := ⟨7, 0, false, []⟩
    1 ≤ st.segment ∧ 1 * st.segment < st.survey.length ∧ advancePointer st 1 = 2 ∧ advancePointer st 2 = 0
      ∧ (finishedPass st 9 ⟨2, [4]⟩).short = true ∧ (finishedPass st 9 ⟨2, [4, 4]⟩).short = false
      ∧ ringAppend 2 [p] ⟨8, 0, true, []⟩ = [p, ⟨8, 0, true, []⟩] ∧ ringAppend 1 [p] ⟨8, 0, true, []⟩ = [⟨8, 0, true, []⟩]
      ∧ (ringRestate 0 [p, p]).map Pass.count = [0xFFFFFE, 0xFFFFFF]
      ∧ (ringCopy 1 [p, ⟨8, 0, true, []⟩]) = [⟨0, true, 1, []⟩] := by decide
theorem test_meets_RollRoundTakesTheRoll :
    (inRound .member { quietOffers with kind := .roll }).EndsRound { quietOffers with kind := .roll }
        ⟨.roll, awake, 0xFFEFFFFF⟩ .won
      ∧ (inRound .member { quietOffers with kind := .roll }).StaysAwake true
      ∧ rollPulled 0xFFEFFFFF 11 = true ∧ rollPulled 0xFFEFFFFF 10 = false := by
  unfold State.EndsRound State.StaysAwake; decide +kernel
theorem test_meets_RollRoundTakesTheRoll_misses :
    ∃ s : State, s.EndsRound quietOffers ⟨.roll, awake, 0xFFEFFFFF⟩ .none
      ∧ s.membership.roster[0].present = true ∧ s.membership.roster[0].misses < 2
      ∧ s.membership.roster[1].present = true ∧ 2 ≤ s.membership.roster[1].misses
      ∧ s.membership.roster[2].present = false :=
  ⟨member.setMembership { member.membership with
      roster := (State.reset.membership.roster.set 0 ⟨true, 1⟩).set 1 ⟨true, 2⟩ }, by
    unfold State.EndsRound; decide +kernel⟩
theorem test_meets_RollTimerRisesToThePeriod :
    ∃ s : State, s.EndsRound quietOffers ⟨.quiet, awake, 0⟩ .none ∧ s.membership.state = .member
      ∧ s.restarts ⟨.quiet, awake, 0⟩ = false ∧ s.StaysAwake true ∧ s.rollComesDue ⟨.quiet, awake, 0⟩ = true :=
  ⟨member.setMembership { member.membership with rollTimer := 255 }, by
    unfold State.EndsRound State.StaysAwake; decide +kernel⟩

/-- The PROBE body of station 11 with the code 1234h, DEFEND as given. -/
def probeBody (defend : Bool) : Body := probeBits 11 0x1234 ++ (if defend then 3#3 else 7#3)
/-- The PROBE body of another station 11 or of a lower station, with a code. -/
def otherProbe (number : BitVec 5) (code : BitVec 16) : Body := probeBits number code ++ 7#3

theorem test_meets_ProbeRoundSettlesTheJoiner_won :
    joiner.EndsRound (probeOffers 0x1234) ⟨.probe, awake, probeBody false⟩ .won ∧ joiner.membership.state = .joining
      ∧ joiner.StaysAwake true ∧ checkGood .probe (probeBody false) = true ∧ defendPulled (probeBody false) = false := by
  unfold State.EndsRound State.StaysAwake; decide +kernel
theorem test_meets_ProbeRoundSettlesTheJoiner_defended :
    joiner.EndsRound (probeOffers 0x1234) ⟨.probe, awake, probeBody true⟩ .won
      ∧ checkGood .probe (probeBody true) = true ∧ defendPulled (probeBody true) = true := by
  unfold State.EndsRound; decide +kernel
theorem test_meets_ProbeRoundSettlesTheJoiner_lost_on_number :
    joiner.EndsRound (probeOffers 0x1234) ⟨.probe, awake, otherProbe 10 0x1234⟩ (.withdrew 4)
      ∧ checkGood .probe (otherProbe 10 0x1234) = true := by
  unfold State.EndsRound; decide +kernel
theorem test_meets_ProbeRoundSettlesTheJoiner_lost_on_code :
    ∃ s : State, s.EndsRound (probeOffers 0x8001) ⟨.probe, awake, otherProbe 11 0x0001⟩ (.withdrew 5)
      ∧ s.membership.state = .joining ∧ checkGood .probe (otherProbe 11 0x0001) = true :=
  ⟨inRound .joining (probeOffers 0x8001), by unfold State.EndsRound; decide +kernel⟩
theorem test_meets_ProbeRoundSettlesTheJoiner_lost_on_last_code_bit :
    ∃ s : State, s.EndsRound (probeOffers 0x8001) ⟨.probe, awake, otherProbe 11 0x8000⟩ (.withdrew 20)
      ∧ s.membership.state = .joining ∧ checkGood .probe (otherProbe 11 0x8000) = true :=
  ⟨inRound .joining (probeOffers 0x8001), by unfold State.EndsRound; decide +kernel⟩
theorem test_meets_ProbeRoundSettlesTheJoiner_bad_check :
    joiner.EndsRound (probeOffers 0x1234) ⟨.probe, awake, 15⟩ (.withdrew 1) ∧ checkGood .probe (15 : Body) = false := by
  unfold State.EndsRound; decide +kernel

theorem test_meets_ProbeRoundSettlesTheJoiner_incident :
    joiner.EndsRound (probeOffers 0x1234) ⟨.incident, awake, 0xFFD2385B⟩ .lostKind
      ∧ joiner.membership.state = .joining ∧ (probeOffers 0x1234).kind = .probe 0x1234 := by
  unfold State.EndsRound; decide +kernel

/-! ### Incidents and captures -/

/-- A member that claims a place and offers its own pass of 3 in the INCIDENT round. -/
def claimOffers : Offers :=
  { quietOffers with kind := .incident ⟨45, 3, 7, 91⟩, claims := true }
def incidentBody45 : Body := incidentBody ⟨45, 3, 7, 91⟩

theorem test_incident_fields :
    incidentNumber incidentBody45 = 45 ∧ incidentPreDepth incidentBody45 = 3 ∧ incidentPostCode incidentBody45 = 7
      ∧ incidentOrigin incidentBody45 = 91 ∧ incidentBody45 = 0xFFD2385B := by decide
theorem test_meets_IncidentRoundRaisesNext :
    (inRound .member claimOffers).EndsRound claimOffers ⟨.incident, awake, incidentBody45⟩ .won
      ∧ joiner.EndsRound (probeOffers 0x1234) ⟨.incident, awake, incidentBody45⟩ .lostKind := by
  unfold State.EndsRound; decide +kernel
theorem test_next_stops_at_65535 :
    nextAfter 45 44 = 45 ∧ nextAfter 45 45 = 46 ∧ nextAfter 1 65534 = 65535 ∧ nextAfter 1 65535 = 65535 := by decide
theorem test_meets_IdleMemberSettlesTheIncident_capture :
    let s := inRound .member claimOffers
    s.EndsRound claimOffers ⟨.incident, awake, incidentBody45⟩ .won ∧ s.membership.state = .member
      ∧ s.engine.state = .idle ∧ claimOffers.captureRound = false ∧ s.StaysAwake true
      ∧ incidentNumber incidentBody45 ≠ 65535 ∧ incidentNumber incidentBody45 ≠ 0 ∧ claimOffers.claims = true
      ∧ s.staging.toOpen = some .slot0 := by
  unfold State.EndsRound State.StaysAwake; decide +kernel
theorem test_meets_IdleMemberSettlesTheIncident_miss :
    let s := inRound .member quietOffers
    s.EndsRound quietOffers ⟨.incident, awake, incidentBody45⟩ .none ∧ s.engine.state = .idle
      ∧ quietOffers.captureRound = false ∧ quietOffers.claims = false := by
  unfold State.EndsRound; decide +kernel
theorem test_meets_IdleMemberSettlesTheIncident_limits :
    member.EndsRound quietOffers ⟨.incident, awake, 0⟩ .none ∧ incidentNumber (0 : Body) = 65535
      ∧ member.EndsRound quietOffers ⟨.incident, awake, 0xFFFF0000⟩ .none ∧ incidentNumber (0xFFFF0000 : Body) = 0 := by
  unfold State.EndsRound; decide +kernel
theorem test_meets_CapturingMemberMergesAndExtends :
    (capturing 3).EndsRound captureOffers ⟨.incident, awake, incidentBody45⟩ .none
      ∧ (capturing 3).membership.state = .member ∧ (capturing 3).engine.state = .capturing
      ∧ captureOffers.captureRound = true ∧ (capturing 3).engine.captured + 1 < 32 ∧ (capturing 3).StaysAwake true
      ∧ (capturing 3).engine.merges.length < 4 ∧ (incidentPostCode incidentBody45).toNat + 1 ≤ 32 - (0 + 1) := by
  unfold State.EndsRound State.StaysAwake; decide +kernel
theorem test_meets_CapturingMemberMergesAndExtends_full :
    ∃ s : State, s.EndsRound captureOffers ⟨.incident, awake, incidentBody45⟩ .none ∧ s.engine.state = .capturing
      ∧ s.engine.captured + 1 < 32 ∧ 32 - (s.engine.captured + 1) < (incidentPostCode incidentBody45).toNat + 1
      ∧ 4 ≤ s.engine.merges.length :=
  ⟨(capturing 3).setEngine { (capturing 3).engine with captured := 29, remaining := 3, merges := [46, 47, 48, 49] }, by
    unfold State.EndsRound; decide +kernel⟩
/-- The 32nd capture round of a capture. -/
def lastRound : State := (capturing 1).setEngine { (capturing 1).engine with captured := 31, remaining := 1 }
theorem test_meets_CapturingMemberMergesAndExtends_last_round :
    lastRound.EndsRound captureOffers ⟨.incident, awake, incidentBody45⟩ .none ∧ lastRound.engine.captured + 1 = 32
      ∧ lastRound.staging.fillingSlot = some (.slot0, addBlock openConstruction) ∧ lastRound.StaysAwake true
      ∧ lastRound.captureComesToEnd ⟨.incident, awake, incidentBody45⟩ = true := by
  unfold State.EndsRound State.StaysAwake; decide +kernel
theorem test_an_incident_in_the_last_round_is_merged_and_cut :
    (mergeAndExtend (readAgreement incidentBody45) (countCaptureRound lastRound.engine)).merges = [45]
      ∧ (mergeAndExtend (readAgreement incidentBody45) (countCaptureRound lastRound.engine)).cut = true
      ∧ (after (.incidentRound awake incidentBody45) lastRound).engine.state = .idle := by decide +kernel
theorem test_meets_CapturingMemberMergesAndExtends_quiet :
    (capturing 2).EndsRound captureOffers ⟨.quiet, awake, 0⟩ .none ∧ (capturing 2).restarts ⟨.quiet, awake, 0⟩ = false
      ∧ (capturing 2).StaysAwake true ∧ 2 ≤ (capturing 2).engine.remaining
      ∧ (after (.quietRound awake false 0) (capturing 2)).engine.remaining = 1
      ∧ (after (.quietRound awake false 0) (capturing 2)).engine.captured = 1 := by
  unfold State.EndsRound State.StaysAwake; decide +kernel
theorem test_meets_CapturingMemberMergesAndExtends_no_number :
    (capturing 3).EndsRound captureOffers ⟨.incident, awake, 0⟩ .none
      ∧ (capturing 3).EndsRound captureOffers ⟨.incident, awake, 0xFFFF0000⟩ .none := by
  unfold State.EndsRound; decide +kernel
theorem test_meets_CaptureEndFinishesTheRecord :
    (capturing 1).EndsRound captureOffers ⟨.quiet, awake, 0⟩ .none
      ∧ (capturing 1).captureComesToEnd ⟨.quiet, awake, 0⟩ = true ∧ (capturing 1).membership.state = .member
      ∧ (capturing 1).restarts ⟨.quiet, awake, 0⟩ = false ∧ (capturing 1).StaysAwake true
      ∧ (capturing 1).staging.fillingSlot = some (.slot0, addBlock openConstruction) := by
  unfold State.EndsRound State.StaysAwake; decide +kernel

/-- Record 45 of station 11 of the spec's section 13.2, but for its samples. -/
def record45 : Construction where
  primary := 45
  origin := 90
  preDepth := 10
  postCode := 11
  station := 11
  burstLength := 3
  density := 2
  stamp := 7205
  roster := Vector.ofFn fun k => [2, 5, 11, 20].contains k.val
  missed := 1
  firstMissed := 44
  pre := (List.range 10).map fun k => ⟨k % 2, k == 9, 10 - k, List.replicate (if k == 9 then 4 else 5) 0⟩
  baselines := [some 0, some 0, some 0]
  blocks := List.replicate 12 (List.replicate 6 absentWord)

theorem test_record_45_has_the_words_of_the_spec :
    (recordImage record45 ⟨12, [], false, false⟩).take 10
        = [0xFFFF, 0x0091, 0x002D, 0x5AAB, 0x5CAC, 0x001C, 0x2503, 0x2410, 0x0800, 0x002C]
      ∧ (recordImage record45 ⟨12, [], false, false⟩).length = 145 := by decide +kernel
theorem test_pass_headers_of_the_spec :
    passHeader ⟨2, false, 3, [0, 0, 0, 0]⟩ = 0x2403 ∧ passHeader ⟨1, true, 5, [0, 0, 0]⟩ = 0x1385 := by decide
theorem test_meets_RecordImageFitsItsLimits :
    (⟨12, [], false, false⟩ : Closing).merges.length ≤ 4 ∧ record45.pre.length ≤ 15
      ∧ (∀ p ∈ record45.pre, p.samples.length ≤ 12) ∧ 1 ≤ record45.baselines.length ∧ record45.baselines.length ≤ 4
      ∧ 1 ≤ record45.blocks.length ∧ record45.blocks.length ≤ 32
      ∧ (∀ b ∈ record45.blocks, 1 ≤ b.length ∧ b.length ≤ 16) := by decide
theorem test_meets_RecordImageFitsItsLimits_header :
    1 ≤ record45.burstLength ∧ record45.burstLength ≤ 4 ∧ record45.density = 2 ∧ (addBlock openConstruction).density = 1
      ∧ { record45 with density := 4 }.density = 4 ∧ record45.missed ≤ 15
      ∧ ∀ p ∈ record45.pre, p.segment ≤ 15 ∧ p.samples.length ≤ 15 ∧ p.age ≤ 127 := by decide
theorem test_meets_AlertPinShowsTheIncident :
    (inRound .member claimOffers).StaysAwake true ∧ claimOffers.captureRound = false
      ∧ (inRound .member claimOffers).settings.pinMode = .pulse
      ∧ (after (.incidentRound awake incidentBody45) (inRound .member claimOffers)).pins.alertPulse = some 0
      ∧ (after (.incidentRound awake incidentBody45) (inRound .member claimOffers)).powered = true := by
  unfold State.StaysAwake; decide +kernel
theorem test_meets_AlertPinShowsTheIncident_level :
    ∃ s : State, s.EndsRound claimOffers ⟨.incident, awake, incidentBody45⟩ .won ∧ s.membership.state = .member
      ∧ s.settings.pinMode = .level :=
  ⟨(inRound .member claimOffers).setSetup
    { member.setup with working := { defaultSettings openKey with pinMode := .level } }, by
    unfold State.EndsRound; decide +kernel⟩

/-- A state with the ALERT pin in level mode, low. -/
def levelPin (s : State) : State :=
  (s.setSetup { s.setup with working := { defaultSettings openKey with pinMode := .level } }).setPins
    { s.pins with alertLow := true }
theorem test_meets_AlertPinShowsTheIncident_captures :
    (levelPin (capturing 3)).EndsRound captureOffers ⟨.incident, awake, incidentBody45⟩ .none
      ∧ (levelPin (capturing 1)).EndsRound captureOffers ⟨.quiet, awake, 0⟩ .none
      ∧ (levelPin (capturing 1)).captureComesToEnd ⟨.quiet, awake, 0⟩ = true
      ∧ (levelPin (capturing 3)).captureComesToEnd ⟨.quiet, awake, 0⟩ = false
      ∧ (levelPin lastRound).EndsRound captureOffers ⟨.incident, awake, incidentBody45⟩ .none
      ∧ (levelPin lastRound).captureComesToEnd ⟨.incident, awake, incidentBody45⟩ = true
      ∧ (levelPin (capturing 3)).engine.state = .capturing ∧ (levelPin (capturing 3)).StaysAwake true := by
  unfold State.EndsRound State.StaysAwake; decide +kernel
theorem test_meets_AlertPinShowsTheIncident_release :
    (levelPin member).EndsRound quietOffers ⟨.quiet, awake, 0⟩ .none ∧ (levelPin member).engine.state = .idle
      ∧ (levelPin member).restarts ⟨.quiet, awake, 0⟩ = false ∧ member.settings.pinMode = .pulse
      ∧ (levelPin member).line.align = .aligned ∧ (levelPin member).membership.state = .member
      ∧ (after (.quietRound awake false 0) (levelPin member)).pins.alertLow = false := by
  unfold State.EndsRound; decide +kernel
theorem test_meets_AlertPinShowsTheIncident_rest :
    ∃ s : State, s.EndsRound quietOffers ⟨.quiet, released, 0⟩ .none ∧ s.restComesDue ⟨.quiet, released, 0⟩ = true
      ∧ s.restarts ⟨.quiet, released, 0⟩ = false ∧ s.settings.pinMode = .level :=
  ⟨(levelPin member).setRest { State.reset.rest with count := 31 }, by unfold State.EndsRound; decide +kernel⟩

/-! ### Replies, streams and orders -/

/-- A member in a round in which it offers a reply, with a stream. -/
def replyOffers : Offers := { quietOffers with kind := .reply ⟨.data, 7⟩ }
def replying (st : Option Stream) : State :=
  (inRound .member replyOffers).setOrders { State.reset.orders with outbox := some ⟨.data, 7⟩, stream := st }
def reply7 : Round := ⟨.reply, awake, replyBody 11 ⟨.data, 7⟩⟩

theorem test_meets_ReplyRoundSettlesTheOutbox_won :
    (replying none).EndsRound replyOffers reply7 .won ∧ (replying none).membership.state = .member
      ∧ (replying none).StaysAwake true ∧ replyWon replyOffers .won = true ∧ (replying none).orders.replaced = false
      ∧ (replying none).orders.stream = none := by
  unfold State.EndsRound State.StaysAwake; decide +kernel
theorem test_meets_ReplyRoundSettlesTheOutbox_lost :
    (replying none).EndsRound replyOffers ⟨.reply, awake, replyBody 10 ⟨.data, 7⟩⟩ (.withdrew 4)
      ∧ replyWon replyOffers (.withdrew 4) = false := by
  unfold State.EndsRound; decide +kernel
theorem test_meets_ReplyRoundSettlesTheOutbox_streams :
    (replying (some (.status 11))).EndsRound replyOffers reply7 .won ∧ (Stream.status 11).atLast = true
      ∧ (replying (some (.status 10))).EndsRound replyOffers reply7 .won ∧ 10 + 1 ≠ 12
      ∧ (replying (some (.status 9))).EndsRound replyOffers reply7 .won ∧ 9 + 1 < 11
      ∧ (replying (some (.record .bank0 1 13 0 45))).EndsRound replyOffers reply7 .won ∧ 0 + 1 ≠ 13
      ∧ (replying (some (.record .bank0 1 13 0 45))).programmer.programming .bank0 = false
      ∧ (programming .commitWord 20 0 0 1 (replying (some (.record .bank0 1 13 0 45)))).programmer.programming .bank0
          = true := by
  unfold State.EndsRound; decide +kernel
theorem test_word_11_shows_the_count_handed_over :
    let s := (replying (some (.status 10))).setLine { (replying none).line with count := 0x1234FF }
    (after (.replyRound awake (replyBody 11 ⟨.data, 7⟩)) s).orders.outbox = some ⟨.last, 0x1234⟩
      ∧ (after (.replyRound awake (replyBody 11 ⟨.data, 7⟩)) s).line.count = 0x123500 := by decide +kernel
theorem test_meets_StreamWordIsLoaded :
    ∃ s : State, s.powered = true ∧ s.orders.stream = some (.record .bank0 1 13 12 45) ∧ s.orders.read = .ready 9 :=
  ⟨member.setOrders { State.reset.orders with stream := some (.record .bank0 1 13 12 45), read := .ready 9 }, by decide⟩
theorem test_meets_FetchAnswersOrStreams :
    openMember.TakesOrder quietOffers .none awake .fetch 45 ∧ openMember.lock = .opened
      ∧ openMember.staging.held 45 = false ∧ findByNumber openMember.store openMember.arrays 45 = none := by
  unfold State.TakesOrder State.EndsRound State.StaysAwake; decide +kernel
theorem test_meets_FetchAnswersOrStreams_record :
    let s := withRecord 0xFFFC openMember
    s.TakesOrder quietOffers .none awake .fetch 45 ∧ s.lock = .opened ∧ s.staging.held 45 = false
      ∧ findByNumber s.store s.arrays 45 = some (.bank0, ⟨1, 13⟩) ∧ s.programmer.programming .bank0 = false
      ∧ (programming .commitWord 20 0 0 1 s).programmer.programming .bank0 = true := by
  unfold State.TakesOrder State.EndsRound State.StaysAwake; decide +kernel
theorem test_meets_FetchAnswersOrStreams_staging :
    ∃ s : State, s.TakesOrder quietOffers .none awake .fetch 45 ∧ s.lock = .opened ∧ s.staging.held 45 = true :=
  ⟨openMember.setStaging { State.reset.staging with slot0 := .ready 45 [] }, by
    unfold State.TakesOrder State.EndsRound State.StaysAwake; decide +kernel⟩
theorem test_fetch_streams_the_state_word :
    (after (.fetch awake 45) (withRecord 0xFFFC openMember)).orders.outbox = some ⟨.data, 0xFFFC⟩ := by decide +kernel
theorem test_store_order_takes_the_older_bank_first :
    let order := fun h0 h1 => storeOrder (twoBanks h0 h1).store (twoBanks h0 h1).arrays
    order 1 2 = [(.bank0, ⟨1, 13⟩), (.bank0, ⟨14, 13⟩), (.bank1, ⟨1, 13⟩)]
      ∧ order 2 1 = [(.bank1, ⟨1, 13⟩), (.bank0, ⟨1, 13⟩), (.bank0, ⟨14, 13⟩)]
      ∧ order 65534 1 = order 1 2 ∧ order 1 65534 = order 2 1 ∧ order 3 9 = order 1 2 ∧ order 9 3 = order 2 1
      ∧ order 4 4 = order 2 1 ∧ order 65534 0xFFFF = order 1 2 := by decide +kernel
theorem test_fetch_takes_the_first_in_store_order :
    let find := fun h0 h1 n => findByNumber (twoBanks h0 h1).store (twoBanks h0 h1).arrays n
    let oldest := fun h0 h1 => oldestUnread (twoBanks h0 h1).store (twoBanks h0 h1).arrays
    oldest 1 2 = some (.bank0, ⟨14, 13⟩) ∧ oldest 2 1 = some (.bank1, ⟨1, 13⟩)
      ∧ find 1 2 45 = some (.bank0, ⟨1, 13⟩) ∧ find 1 2 46 = some (.bank0, ⟨14, 13⟩)
      ∧ find 1 2 47 = some (.bank1, ⟨1, 13⟩) ∧ find 1 2 48 = none
      ∧ (after (.fetchOldestUnread awake) (twoBanks 2 1)).orders.stream = some (.record .bank1 1 13 0 47) := by
  decide +kernel
theorem test_meets_FetchOldestStreamsTheFirstUnread_two_banks :
    (twoBanks 1 2).TakesOrder quietOffers .none awake .fetch 0 ∧ (twoBanks 1 2).lock = .opened
      ∧ (twoBanks 1 2).TakesOrder quietOffers .none awake .fetch 47
      ∧ (twoBanks 1 2).staging.held 47 = false := by
  unfold State.TakesOrder State.EndsRound State.StaysAwake; decide +kernel
theorem test_held_by_a_primary_number_in_any_slot :
    let q := fun a b => ({ State.reset.staging with slot0 := a, slot1 := b } : Staging)
    (q (.filling openConstruction) .empty).held openConstruction.primary = true
      ∧ (q .empty (.committing 45 [])).held 45 = true ∧ (q .empty (.ready 45 [])).held 45 = true
      ∧ (q .empty (.ready 45 [])).held 46 = false ∧ (q .empty .empty).held 0 = false := by decide +kernel
theorem test_meets_FetchOldestStreamsTheFirstUnread :
    let s := withRecord 0xFFFC openMember
    s.TakesOrder quietOffers .none awake .fetch 0 ∧ s.lock = .opened
      ∧ oldestUnread s.store s.arrays = some (.bank0, ⟨1, 13⟩)
      ∧ oldestUnread (withRecord 0xFFF8 openMember).store (withRecord 0xFFF8 openMember).arrays = none := by
  unfold State.TakesOrder State.EndsRound State.StaysAwake; decide +kernel
theorem test_meets_FetchStatusStreamsTheStatus :
    member.TakesOrder quietOffers .none awake .fetch 0xFFFF ∧ openMember.TakesOrder quietOffers .none awake .fetch 0xFFFF
      ∧ (keyed .key1).TakesOrder quietOffers .none awake .fetch 0xFFFF := by
  unfold State.TakesOrder State.EndsRound State.StaysAwake; decide +kernel
theorem test_status_word_0_shows_locked :
    (after (.fetchStatus awake) (keyed .key2)).orders.outbox = some ⟨.data, 0x6000⟩
      ∧ (after (.fetchStatus awake) (keyed .key2)).lock = .locked := by decide +kernel
theorem test_meets_FetchStatusStreamsTheStatus_words :
    State.reset.store.openBank = none
      ∧ (withRecord 0xFFFC member).store.openBank = some .bank0
      ∧ ((withRecord 0xFFFC member).store.bank .bank0).state ≠ .erasing
      ∧ (((withRecord 0xFFFC member).store.setState .bank0 .erasing).bank .bank0).state = .erasing
      ∧ (withRecord 0xFFFC member).statusWord 7 = 0x3FF2
      ∧ (withRecord 0xFFFC member).statusWord 6 = 0x2000 := by decide +kernel
theorem test_meets_MarkIsHandedOver :
    openMember.TakesOrder quietOffers .none awake .mark 0 ∧ openMember.TakesOrder quietOffers .none awake .mark 0xFFFF
      ∧ openMember.TakesOrder quietOffers .none awake .mark 0xFFFE := by
  unfold State.TakesOrder State.EndsRound State.StaysAwake; decide +kernel
theorem test_meets_UnlockMovesTheLock :
    member.TakesOrder quietOffers .none awake .unlock 7 ∧ member.settings.key = ⟨0xFFFF, 0xFFFF, 0xFFFF⟩
      ∧ (keyed .locked).TakesOrder quietOffers .none awake .unlock 0x3C51
      ∧ (keyed .key1).TakesOrder quietOffers .none awake .unlock 0x9A07
      ∧ (keyed .key2).TakesOrder quietOffers .none awake .unlock 0x00E2
      ∧ (keyed .opened).TakesOrder quietOffers .none awake .unlock 0
      ∧ (keyed .locked).settings.key ≠ ⟨0xFFFF, 0xFFFF, 0xFFFF⟩ ∧ (keyed .locked).settings.key ≠ ⟨0, 0, 0⟩
      ∧ (keyed .locked).settings.key = ⟨0x3C51, 0x9A07, 0x00E2⟩ := by
  unfold State.TakesOrder State.EndsRound State.StaysAwake; decide +kernel
theorem test_meets_UnlockMovesTheLock_never_opens :
    ∃ s : State, s.TakesOrder quietOffers .none awake .unlock 0 ∧ s.settings.key = ⟨0, 0, 0⟩ :=
  ⟨member.setSetup { member.setup with working := defaultSettings ⟨0, 0, 0⟩ }, by
    unfold State.TakesOrder State.EndsRound State.StaysAwake; decide +kernel⟩
theorem test_the_key_sequence_of_the_spec :
    (after (.unlock awake 0x3C51) (keyed .locked)).lock = .key1
      ∧ (after (.unlock awake 0x9A07) (keyed .key1)).orders.outbox = some ⟨.pending, 2⟩
      ∧ (after (.unlock awake 0x00E2) (keyed .key2)).orders.outbox = some ⟨.done, 3⟩
      ∧ (after (.unlock awake 0x00E2) (keyed .locked)).orders.outbox = some ⟨.locked, 0⟩ := by decide +kernel
theorem test_meets_RelockAndLoadAnswerDone :
    (keyed .key1).TakesOrder quietOffers .none awake .relock 5 ∧ openMember.TakesOrder quietOffers .none awake .load 0x1555 := by
  unfold State.TakesOrder State.EndsRound State.StaysAwake; decide +kernel

/-- A member with its lock OPEN, the word 1555h held, and a setup sequence under way. -/
def sequenceAt (k : Nat) (i : PulseIndex) : State :=
  openMember.setOrders { State.reset.orders with holding := 0x1555, pulseCount := k, pulseIndex := some i }
/-- The same during an erase of bank 1. -/
def erasingBank (s : State) : State := s.setProgrammer { State.reset.programmer with op := .bankErase .bank1 1 }

theorem test_meets_ProgramHandsOnePulse :
    openMember.TakesOrder quietOffers .none awake .program 31 ∧ 31 ≤ (31 : Word).toNat
      ∧ openMember.orders.pulseIndex ≠ some (.program 31)
      ∧ (erasingBank openMember).TakesOrder quietOffers .none awake .program 30
      ∧ (erasingBank openMember).bankErasing = true ∧ (30 : Word).toNat < 31
      ∧ (sequenceAt 3 (.program 26)).TakesOrder quietOffers .none awake .program 26
      ∧ (sequenceAt 3 (.program 26)).bankErasing = false ∧ (sequenceAt 3 (.program 26)).lock = .opened := by
  unfold State.TakesOrder State.EndsRound State.StaysAwake; decide +kernel
theorem test_the_setup_sequence_of_the_spec :
    (after (.program awake 26) (sequenceAt 0 .erase)).orders.outbox = some ⟨.pending, 1⟩
      ∧ (after (.program awake 26) (sequenceAt 2 (.program 26))).orders.outbox = some ⟨.pending, 3⟩
      ∧ (after (.program awake 26) (sequenceAt 3 (.program 26))).setup.owed = .program 26
      ∧ (after (.fetchStatus awake) (sequenceAt 2 (.program 26))).orders.pulseCount = 0 := by decide +kernel
theorem test_meets_EraseGivesThePendingErase :
    openMember.TakesOrder quietOffers .none awake .erase 0 ∧ openMember.TakesOrder quietOffers .none awake .erase 1
      ∧ openMember.TakesOrder quietOffers .none awake .erase 3 ∧ openMember.commitWriting .bank0 = false
      ∧ openMember.bankErasing = false ∧ (erasingBank openMember).bankErasing = true
      ∧ (programming .header 0 1 1 1 openMember).commitWriting .bank0 = true := by
  unfold State.TakesOrder State.EndsRound State.StaysAwake; decide +kernel
theorem test_a_commit_writes_its_own_bank :
    let s := member.setProgrammer { State.reset.programmer with commit := some ⟨.slot0, .bank1, 14, 13, 5⟩ }
    s.commitWriting .bank1 = true ∧ s.commitWriting .bank0 = false
      ∧ (programming .header 0 1 1 1 member).commitWriting .bank1 = false
      ∧ (programming .voidMark 1 0xFFF7 0xFFF6 1 member).commitWriting .bank0 = false := by decide
theorem test_meets_EraseSetupHandsOnePulse :
    (sequenceAt 7 .erase).TakesOrder quietOffers .none awake .erase 2 ∧ (sequenceAt 7 .erase).lock = .opened
      ∧ (sequenceAt 7 .erase).bankErasing = false ∧ (erasingBank (sequenceAt 7 .erase)).bankErasing = true
      ∧ (erasingBank (sequenceAt 7 .erase)).TakesOrder quietOffers .none awake .erase 2 := by
  unfold State.TakesOrder State.EndsRound State.StaysAwake; decide +kernel
theorem test_meets_RestartIsAStart : openMember.TakesOrder quietOffers .none awake .restart 9 := by
  unfold State.TakesOrder State.EndsRound State.StaysAwake; decide +kernel
theorem test_meets_LockedStationRefusesTheOrder :
    (keyed .key2).TakesOrder quietOffers .none awake .erase 2 ∧ needsOpenLock .erase 2 = true ∧ (keyed .key2).lock ≠ .opened
      ∧ needsOpenLock .fetch 0xFFFE = true ∧ needsOpenLock .fetch 0xFFFF = false := by
  unfold State.TakesOrder State.EndsRound State.StaysAwake; decide +kernel
theorem test_orders_that_need_the_lock :
    [OrderCode.fetch, .mark, .unlock, .relock, .load, .program, .erase, .restart].map (needsOpenLock · 0xFFFF)
        = [false, true, false, false, true, true, true, true]
      ∧ needsOpenLock .fetch 0 = true ∧ needsOpenLock .fetch 1 = true := by decide
theorem test_forgotten_answers :
    let p : Programmer := { State.reset.programmer with
      marks := [⟨45, true⟩], pulses := [.erase 8 true], op := .word ⟨.mark 44 true, .bank0, 1, 0xFFFB, 0xFFF8, 1⟩ }
    p.forgetAnswers.marks = [⟨45, false⟩] ∧ p.forgetAnswers.pulses = [.erase 8 false]
      ∧ p.forgetAnswers.op = .word ⟨.mark 44 false, .bank0, 1, 0xFFFB, 0xFFF8, 1⟩ := by decide
theorem test_meets_ForeignOrderIsNotTaken :
    member.EndsRound quietOffers ⟨.order, awake, orderBody 9 .erase 0⟩ .none ∧ member.StaysAwake true
      ∧ orderTarget (orderBody 9 .erase 0) ≠ member.membership.number
      ∧ checkGood .order (orderBody 9 .erase 0) = true ∧ checkGood .order (orderBody 11 .erase 0 ^^^ 1) = false
      ∧ (inRound .joining quietOffers).EndsRound quietOffers ⟨.order, awake, orderBody 11 .erase 0⟩ .none
      ∧ (inRound .joining quietOffers).membership.state ≠ .member := by
  unfold State.EndsRound State.StaysAwake; decide +kernel
theorem test_meets_OpenTimerLocks :
    ∃ s : State, s.EndsRound quietOffers ⟨.quiet, awake, 0⟩ .none ∧ s.openTimerComesDue ⟨.quiet, awake, 0⟩ = true
      ∧ s.StaysAwake true ∧ replyWon quietOffers .none = false :=
  ⟨openMember.setOrders { State.reset.orders with openTimer := 4095 }, by
    unfold State.EndsRound State.StaysAwake; decide +kernel⟩
theorem test_meets_OpenTimerLocks_counts :
    openMember.EndsRound quietOffers ⟨.quiet, awake, 0⟩ .none ∧ openMember.takenOrder ⟨.quiet, awake, 0⟩ = none
      ∧ openMember.membership.state = .member ∧ openMember.StaysAwake true ∧ openMember.settings.openTimeout = some 4096
      ∧ openMember.orders.openTimer + 1 < 4096 ∧ member.lock ≠ .opened
      ∧ (after (.quietRound awake false 0) openMember).orders.openTimer = 1 := by
  unfold State.EndsRound State.StaysAwake; decide +kernel
theorem test_meets_OpenTimerLocks_no_timeout :
    ∃ s : State, s.EndsRound quietOffers ⟨.quiet, awake, 0⟩ .none ∧ s.settings.openTimeout = none ∧ s.lock = .opened
      ∧ s.takenOrder ⟨.quiet, awake, 0⟩ = none :=
  ⟨openMember.setSetup { member.setup with working := { defaultSettings openKey with openTimeout := none } }, by
    unfold State.EndsRound; decide +kernel⟩

/-! ### The non-volatile arrays -/

theorem test_state_words_of_the_spec :
    nvRead (nvProgram 16384 [] 1 startedStep 0) 1 = 0xFFFE
      ∧ nvRead (nvProgram 16384 [(1, 0xFFFE)] 1 completeStep 0) 1 = 0xFFFC
      ∧ nvRead (nvProgram 16384 [(1, 0xFFFC)] 1 readStep 0) 1 = 0xFFF8
      ∧ nvRead (nvProgram 16384 [(1, 0xFFFE)] 1 voidStep 0) 1 = 0xFFF6 := by decide
theorem test_record_states_of_the_spec :
    recordState 0xFFFF = .free ∧ recordState 0xFFFE = .started ∧ recordState 0xFFFC = .complete
      ∧ recordState 0xFFF8 = .read ∧ recordState 0xFFF6 = .void ∧ recordState 0xFFFD = .stray := by decide

/-- A commit of a record of 13 words to bank 0, position 1, with its next word in progress. -/
def committing (next : Nat) (p : Purpose) (w : WordOp) : State :=
  let s := withRecord 0xFFFE member
  (s.setStaging { State.reset.staging with slot0 := .committing 45 (List.replicate 13 0) }).setProgrammer
    { State.reset.programmer with op := .word { w with purpose := p }, commit := some ⟨.slot0, .bank0, 1, 13, next⟩ }

def completeOp (attempt : Nat) : WordOp := ⟨.commitWord, .bank0, 1, 0xFFFD, 0xFFFC, attempt⟩

theorem test_meets_CommitGoesOnToComplete :
    let s := committing 13 .commitWord (completeOp 1)
    s.powered = true ∧ s.arrays.wf = true ∧ s.programmer.op = .word (completeOp 1)
      ∧ s.programmer.commit = some ⟨.slot0, .bank0, 1, 13, 13⟩ ∧ (completeOp 1).address < Config.bankWords
      ∧ programmedWord (nvRead s.arrays.bank0 1) 0xFFFD 0 = 0xFFFC := by decide +kernel
theorem test_meets_CommitGoesOnToComplete_reads_complete :
    let s := committing 13 .commitWord (completeOp 1)
    let old := nvRead (s.arrays.bank .bank0) 1
    (completeOp 1).bank = .bank0 ∧ (completeOp 1).address = 1 ∧ (completeOp 1).value = 0xFFFD
      ∧ (completeOp 1).meant = old &&& 0xFFFD ∧ recordState old = .started ∧ old.getLsbD 2 = true := by decide +kernel
theorem test_meets_CommitGoesOnToComplete_middle :
    let w : WordOp := ⟨.commitWord, .bank0, 13, 0, 0, 1⟩
    let s := committing 12 .commitWord w
    s.programmer.op = .word w ∧ s.programmer.commit = some ⟨.slot0, .bank0, 1, 13, 12⟩
      ∧ programmedWord (nvRead s.arrays.bank0 13) 0 0 = 0 := by decide +kernel
theorem test_meets_FailedCommitEndsVoid :
    let s := committing 13 .commitWord (completeOp 3)
    s.powered = true ∧ s.arrays.wf = true ∧ s.programmer.op = .word (completeOp 3)
      ∧ s.programmer.commit = some ⟨.slot0, .bank0, 1, 13, 13⟩ ∧ 3 ≤ (completeOp 3).attempt
      ∧ programmedWord (nvRead s.arrays.bank0 1) 0xFFFD 2 ≠ 0xFFFC := by decide +kernel
theorem test_meets_FailedCommitEndsVoid_void_step :
    let w : WordOp := ⟨.commitVoid, .bank0, 1, 0xFFF7, 0xFFF6, 3⟩
    let s := committing 13 .commitVoid w
    s.programmer.op = .word w ∧ w.purpose = .commitVoid ∧ 3 ≤ w.attempt := by decide +kernel
theorem test_meets_FailedCommitEndsVoid_passed :
    let w : WordOp := ⟨.commitVoid, .bank0, 1, 0xFFF7, 0xFFF6, 1⟩
    let s := committing 5 .commitVoid w
    s.programmer.op = .word w ∧ s.programmer.commit = some ⟨.slot0, .bank0, 1, 13, 5⟩ ∧ w.address < Config.bankWords
      ∧ programmedWord (nvRead (s.arrays.bank w.bank) w.address) w.value 0 = w.meant := by decide +kernel
theorem test_meets_MarkEndsWithItsReport :
    let w : WordOp := ⟨.mark 45 true, .bank0, 1, 0xFFFB, 0xFFF8, 3⟩
    let s := programming w.purpose 1 0xFFFB 0xFFF8 3 (withRecord 0xFFFC openMember)
    s.powered = true ∧ s.arrays.wf = true ∧ s.programmer.op = .word w ∧ w.address < Config.bankWords
      ∧ w.meant = nvRead (s.arrays.bank w.bank) w.address &&& 0xFFFB
      ∧ recordState (nvRead (s.arrays.bank w.bank) w.address) = .complete ∧ s.orders.stream = none := by decide +kernel
theorem test_meets_MarkEndsWithItsReport_beside_a_stream :
    let s := (programming (.mark 45 true) 1 0xFFFB 0xFFF8 3 (withRecord 0xFFFC openMember)).setOrders
      { State.reset.orders with awaited := some 45, stream := some (.record .bank0 1 13 2 45), read := .waiting }
    (0xFFFB : Word) &&& 4 = 0 ∧ (0x0005 : Word) &&& 4 ≠ 0
      ∧ (after (.wordProgramDone 0xFFFB) s).orders.outbox = some ⟨.done, 45⟩
      ∧ (after (.wordProgramDone 5) s).orders = { s.orders with
          outbox := some ⟨.refused, 2⟩, awaited := none, read := .ready 45 } := by decide +kernel
theorem test_a_mark_ends_done :
    (after (.wordProgramDone 0) (programming (.mark 45 true) 1 0xFFFB 0xFFF8 1 (withRecord 0xFFFC openMember))).orders.outbox
        = some ⟨.done, 45⟩
      ∧ (after (.wordProgramDone 4) (programming (.mark 45 true) 1 0xFFFB 0xFFF8 3 (withRecord 0xFFFC openMember))).orders.outbox
        = some ⟨.refused, 2⟩ := by decide +kernel
theorem test_meets_HeaderOpensTheBankOrCondemnsIt :
    ∃ (s : State) (w : WordOp), s.powered = true ∧ s.arrays.wf = true ∧ s.programmer.op = .word w
      ∧ w.purpose = .header ∧ w.address = 0 ∧ w.attempt = 3
      ∧ s.staging.head = some (.slot0, 45, List.replicate 13 0)
      ∧ programmedWord (nvRead (s.arrays.bank w.bank) 0) w.value 0 = w.meant
      ∧ programmedWord (nvRead (s.arrays.bank w.bank) 0) w.value 0x8000 ≠ w.meant :=
  ⟨(programming .header 0 1 1 3 member).setStaging
      { State.reset.staging with slot0 := .ready 45 (List.replicate 13 0), handOver := [.slot0] },
    ⟨.header, .bank0, 0, 1, 1, 3⟩, by decide +kernel⟩
theorem test_meets_AttemptIsRetriedOrStops :
    let s := programming .voidMark 1 0xFFF7 0xFFF6 2 (withRecord 0xFFFE member)
    s.powered = true ∧ s.arrays.wf = true ∧ s.programmer.op = .word ⟨.voidMark, .bank0, 1, 0xFFF7, 0xFFF6, 2⟩
      ∧ programmedWord (nvRead s.arrays.bank0 1) 0xFFF7 8 ≠ 0xFFF6 := by decide +kernel
/-- A station that streams the record of bank 0, its next word waiting to be read. -/
def waitingRead (s : State) : State :=
  s.setOrders { State.reset.orders with stream := some (.record .bank0 1 13 0 45), read := .waiting }
theorem test_meets_AttemptIsRetriedOrStops_last :
    let s := waitingRead (programming .voidMark 1 0xFFF7 0xFFF6 3 (withRecord 0xFFFE member))
    s.powered = true ∧ s.arrays.wf = true ∧ s.programmer.op = .word ⟨.voidMark, .bank0, 1, 0xFFF7, 0xFFF6, 3⟩
      ∧ s.orders.stream = some (.record .bank0 1 13 0 45) ∧ s.orders.read = .waiting
      ∧ (after (.wordProgramDone 8) s).orders.read = .ready 0xFFFE
      ∧ (after (.wordProgramDone 0) s).orders.read = .ready 0xFFF6 := by decide +kernel
theorem test_meets_AttemptIsRetriedOrStops_outside :
    let s := programming .voidMark 16384 0xFFF7 0xFFF6 1 member
    s.powered = true ∧ s.programmer.op = .word ⟨.voidMark, .bank0, 16384, 0xFFF7, 0xFFF6, 1⟩
      ∧ Config.bankWords ≤ 16384 := by decide
theorem test_meets_BankEraseEndsFreshOrBad :
    let s := erasingBank ((withRecord 0xFFFC member).setArrays ⟨[], [(0, 0), (5, 0xFFFE)], []⟩)
    s.powered = true ∧ s.arrays.wf = true ∧ s.programmer.op = .bankErase .bank1 1
      ∧ nvErase (s.arrays.bank .bank1) [] = [] ∧ nvErase (s.arrays.bank .bank1) [(5, 1)] ≠ []
      ∧ s.store.openBank ≠ some .bank1 ∧ s.membership.state ≠ .withdrawn ∧ s.setup.fault = .none
      ∧ (s.store.bank BankId.bank1.other).state ≠ .bad
      ∧ (s.setStore { s.store with openBank := some .bank1 }).store.openBank = some .bank1 := by decide +kernel
theorem test_meets_BankEraseBeginsByCondemning :
    ∃ s : State, s.arrays.wf = true ∧ s.orders.stream = some (.record .bank0 1 13 2 45) :=
  ⟨(withRecord 0xFFFC member).setOrders { State.reset.orders with stream := some (.record .bank0 1 13 2 45) }, by
    decide +kernel⟩
theorem test_fault_holds_until_the_erase_of_a_bad_bank_verifies :
    let s := member.setStore { member.store with bank1 := ⟨.bad, true, []⟩ }
    s.faultCondition = true ∧ (s.beginBankErase .bank1).faultCondition = true
      ∧ (s.beginBankErase .bank1).store.bank1.state = .erasing
      ∧ (after (.bankEraseDone [] 0) (s.beginBankErase .bank1)).pins.faultLow = false
      ∧ (after (.bankEraseDone [(0, 1)] 0) (s.beginBankErase .bank1)).pins.faultLow = true := by decide +kernel
theorem test_meets_BankEraseBeginsByCondemning_others :
    ∃ s t : State, s.arrays.wf = true ∧ s.orders.stream = some (.record BankId.bank0.other 1 13 2 45)
      ∧ t.arrays.wf = true ∧ t.orders.stream = some (.status 3) :=
  ⟨member.setOrders { State.reset.orders with stream := some (.record .bank1 1 13 2 45) },
    member.setOrders { State.reset.orders with stream := some (.status 3) }, by decide⟩
theorem test_meets_ProgrammerTakesTheFirstLevel_first_two :
    ∃ s t u v : State, s.programmer.op ≠ .idle
      ∧ t.programmer.op = .idle ∧ t.programmer.pulses = [.erase 1 false]
      ∧ u.programmer.op = .idle ∧ u.programmer.pulses = [] ∧ u.programmer.marks = [⟨45, true⟩, ⟨46, true⟩]
      ∧ findByNumber u.store u.arrays 45 = some (.bank0, ⟨1, 13⟩) ∧ extentState (u.arrays.bank .bank0) ⟨1, 13⟩ = .complete
      ∧ v.programmer.op = .idle ∧ v.programmer.pulses = [] ∧ v.programmer.marks = [⟨46, true⟩, ⟨45, false⟩]
      ∧ findByNumber v.store v.arrays 46 = none :=
  ⟨erasingBank member, member.setProgrammer { State.reset.programmer with pulses := [.erase 1 false] },
    (withRecord 0xFFFC member).setProgrammer { State.reset.programmer with marks := [⟨45, true⟩, ⟨46, true⟩] },
    (withRecord 0xFFFC member).setProgrammer { State.reset.programmer with marks := [⟨46, true⟩, ⟨45, false⟩] },
    by decide +kernel⟩
/-- A member with its programmer idle and a commit that stands at a word. -/
def committingIdle (next : Nat) : State :=
  ((withRecord 0xFFFE member).setStaging
      { State.reset.staging with slot0 := .committing 45 (List.replicate 13 7) }).setProgrammer
    { State.reset.programmer with commit := some ⟨.slot0, .bank0, 1, 13, next⟩ }
theorem test_meets_ProgrammerTakesTheFirstLevel_commit :
    (committingIdle 0).programmer.op = .idle ∧ (committingIdle 0).programmer.pulses = []
      ∧ (committingIdle 0).programmer.marks = [] ∧ (committingIdle 0).programmer.commit = some ⟨.slot0, .bank0, 1, 13, 0⟩
      ∧ ((committingIdle 1).staging.slot .slot0).image[1]? = some 7
      ∧ ((committingIdle 12).staging.slot .slot0).image[12]? = some 7
      ∧ (committingIdle 13).programmer.commit = some ⟨.slot0, .bank0, 1, 13, 13⟩ := by decide +kernel
/-- A member with a READY slot at the head of the hand-over order, and a store. -/
def handing (t : Store) (b0 : Nv) : State :=
  ((member.setStaging { State.reset.staging with slot0 := .ready 45 (List.replicate 13 7), handOver := [.slot0] }).setStore
    t).setArrays ⟨b0, [(0, 9)], []⟩
def opened0 : Store := { State.reset.store with bank0 := ⟨.opened, false, []⟩, openBank := some .bank0, appendPoint := 14 }
theorem test_meets_ProgrammerTakesTheFirstLevel_room :
    let s := handing opened0 (bankWith 0xFFFC)
    let u := handing { opened0 with bank1 := ⟨.closed, false, []⟩ } []
    s.programmer.op = .idle ∧ s.programmer.commit = none ∧ s.staging.head = some (.slot0, 45, List.replicate 13 7)
      ∧ (roomCheck s.settings.policy s.store s.arrays 13).2 = .commit .bank0 ∧ nvRead s.arrays.bank0 0 ≠ 0xFFFF
      ∧ (roomCheck u.settings.policy u.store u.arrays 13).2 = .commit .bank0 ∧ nvRead u.arrays.bank0 0 = 0xFFFF
      ∧ (u.store.bank BankId.bank0.other).state = .closed ∧ (s.store.bank BankId.bank0.other).state ≠ .closed
      ∧ (handing { opened0 with bank1 := ⟨.fresh, false, []⟩ } []).arrays.bank0 = [] := by decide +kernel
theorem test_meets_ProgrammerTakesTheFirstLevel_waits :
    let s := handing { opened0 with bank0 := ⟨.opened, true, [⟨1, 13⟩]⟩, voidQueue := [(.bank0, ⟨1, 13⟩)] } []
    let u := handing { opened0 with bank0 := ⟨.opened, true, []⟩ } []
    (roomCheck s.settings.policy s.store s.arrays 13).2 = .wait ∧ s.store.voidQueue = [(.bank0, ⟨1, 13⟩)]
      ∧ s.programmer.commit = none ∧ s.staging.head = some (.slot0, 45, List.replicate 13 7)
      ∧ (roomCheck u.settings.policy u.store u.arrays 13).2 = .wait ∧ u.store.voidQueue = []
      ∧ (roomCheck u.settings.policy u.store u.arrays 13).1.bank0.erasePending = true
      ∧ u.take.programmer.op = .bankErase .bank0 0xFFFF := by decide +kernel
theorem test_meets_ProgrammerTakesTheFirstLevel_last_levels :
    ∃ t u v w : State,
      t.programmer.op = .idle ∧ t.programmer.commit = none ∧ t.staging.head = none
      ∧ t.store.voidQueue = [(.bank0, ⟨1, 13⟩)]
      ∧ u.programmer.op = .idle ∧ u.programmer.commit = none ∧ u.staging.head = none ∧ u.store.voidQueue = []
      ∧ u.store.bank0.erasePending = true
      ∧ v.programmer.op = .idle ∧ v.staging.head = none ∧ v.store.voidQueue = [] ∧ v.store.bank0.erasePending = false
      ∧ v.store.bank1.erasePending = true
      ∧ w.programmer.op = .idle ∧ w.staging.head = none ∧ w.store.voidQueue = [] ∧ w.store.bank0.erasePending = false
      ∧ w.store.bank1.erasePending = false :=
  ⟨member.setStore { State.reset.store with voidQueue := [(.bank0, ⟨1, 13⟩)] },
    member.setStore { State.reset.store with bank0 := ⟨.closed, true, []⟩ },
    member.setStore { State.reset.store with bank1 := ⟨.dirty, true, []⟩ }, member, by decide +kernel⟩
theorem test_meets_RoomCheckFollowsItsCases_open :
    let t : Store := { State.reset.store with bank0 := ⟨.opened, false, []⟩, openBank := some .bank0, appendPoint := 16245 }
    t.openBank = some .bank0 ∧ (t.bank .bank0).state = .opened ∧ (t.bank .bank0).erasePending = false
      ∧ 139 ≤ Config.bankWords - t.appendPoint ∧ Config.bankWords - t.appendPoint < 140
      ∧ (t.bank BankId.bank0.other).state = .fresh ∧ (t.bank BankId.bank0.other).erasePending = false
      ∧ ((t.setPending .bank0).bank .bank0).erasePending = true
      ∧ ((t.setState .bank0 .erasing).bank .bank0).state = .erasing := by decide
theorem test_meets_RoomCheckFollowsItsCases_fresh :
    let t : Store := State.reset.store
    t.openBank = none ∧ (t.bank .bank0).state = .fresh ∧ (t.bank .bank0).erasePending = false
      ∧ ((t.setPending .bank0).bank .bank0).erasePending = true ∧ ((t.setPending .bank0).bank .bank1).state = .fresh
      ∧ ((t.setPending .bank0).bank .bank1).erasePending = false
      ∧ (roomCheck .keep (t.setPending .bank0) ⟨[], [], []⟩ 13).2 = .commit .bank1 := by decide
theorem test_meets_RoomCheckFollowsItsCases_waits :
    ∃ t u : Store, t.openBank = none ∧ t.bank0.state = .erasing ∧ t.bank1.state = .closed
      ∧ u.openBank = none ∧ u.bank0.state = .fresh ∧ u.bank0.erasePending = true ∧ u.bank1.state = .bad :=
  ⟨{ State.reset.store with bank0 := ⟨.erasing, false, []⟩, bank1 := ⟨.closed, false, []⟩ },
    { State.reset.store with bank0 := ⟨.fresh, true, []⟩, bank1 := ⟨.bad, false, []⟩ }, by decide⟩
theorem test_meets_RoomCheckFollowsItsCases_one_bad :
    let t : Store := { State.reset.store with bank0 := ⟨.bad, false, []⟩, bank1 := ⟨.closed, false, [⟨1, 13⟩]⟩ }
    t.openBank = none ∧ (t.bank .bank1).state = .closed ∧ (t.bank .bank1).erasePending = false
      ∧ (t.bank BankId.bank1.other).state = .bad ∧ allReadOrVoid (bankWith 0xFFF8) (t.bank .bank1).records = true
      ∧ allReadOrVoid (bankWith 0xFFFC) (t.bank .bank1).records = false := by decide +kernel
theorem test_meets_RoomCheckFollowsItsCases_none_open :
    let t : Store := { State.reset.store with bank0 := ⟨.closed, false, [⟨1, 13⟩]⟩, bank1 := ⟨.closed, false, []⟩ }
    let m : Arrays := ⟨bankWith 0xFFFC, [(0, 2)], []⟩
    t.openBank = none ∧ t.bank0.state = .closed ∧ t.bank1.state = .closed
      ∧ t.bank0.erasePending = false ∧ t.bank1.erasePending = false ∧ (newerBank t m).other = .bank0
      ∧ allReadOrVoid (m.bank .bank0) (t.bank .bank0).records = false
      ∧ allReadOrVoid (bankWith 0xFFF8) (t.bank .bank0).records = true := by decide +kernel
theorem test_meets_RoomCheckFollowsItsCases_bad :
    ∃ t : Store, t.openBank = none ∧ t.bank0.state = .bad ∧ t.bank1.state = .bad :=
  ⟨{ State.reset.store with bank0 := ⟨.bad, false, []⟩, bank1 := ⟨.bad, false, []⟩ }, by decide⟩
theorem test_a_take_begins_an_erase :
    let s := (withRecord 0xFFFC member).setStore
      { (withRecord 0xFFFC member).store with bank0 := ⟨.closed, true, [⟨1, 13⟩]⟩, openBank := none }
    s.take = s.beginBankErase .bank0 ∧ s.take.arrays.bank0.head? = some (0, 0) ∧ s.take.store.unread = 0 := by
  decide +kernel
theorem test_the_head_slot :
    let q : Staging := ⟨.ready 45 [7], .ready 46 [8], [.slot1, .slot0]⟩
    q.head = some (.slot1, 46, [8]) ∧ (Slot.committing 46 [8]).image = [8] ∧ State.reset.staging.head = none := by
  decide
theorem test_the_candidate_is_the_older_of_two_closed :
    let t : Store := { State.reset.store with bank0 := ⟨.closed, false, []⟩, bank1 := ⟨.closed, false, []⟩ }
    let newer := fun h0 h1 : Word => newerBank t ⟨[(0, h0)], [(0, h1)], []⟩
    newer 5 6 = .bank1 ∧ newer 6 5 = .bank0 ∧ newer 65534 1 = .bank1 ∧ newer 3 9 = .bank1 ∧ newer 9 3 = .bank0
      ∧ newer 4 4 = .bank0 := by decide
theorem test_complete_records_counted :
    completeCount (bankOfTwo 1) [⟨1, 13⟩, ⟨14, 13⟩] = 1 ∧ completeCount (bankOfOne 1) [⟨1, 13⟩] = 1
      ∧ completeCount (bankWith 0xFFFE) [⟨1, 13⟩] = 0 ∧ allReadOrVoid [] [] = true := by decide
theorem test_a_stray_record_holds_off_reclaim :
    recordState 0xFFF7 = .stray ∧ allReadOrVoid [(1, 0xFFF7)] [⟨1, 13⟩] = false
      ∧ allReadOrVoid [(1, 0xFFF6), (14, 0xFFF8)] [⟨1, 13⟩, ⟨14, 13⟩] = true := by decide
theorem test_meets_SetupPulsesWriteTheBlock :
    ∃ s t : State, s.powered = true ∧ s.arrays.wf = true ∧ s.programmer.op = .pulse (.program 30 0x1555 4 true)
      ∧ t.powered = true ∧ t.arrays.wf = true ∧ t.programmer.op = .pulse (.erase 8 true) :=
  ⟨member.setProgrammer { State.reset.programmer with op := .pulse (.program 30 0x1555 4 true) },
    member.setProgrammer { State.reset.programmer with op := .pulse (.erase 8 true) }, by decide +kernel⟩
theorem test_word_26_of_the_spec :
    (after (.setupProgramPulseDone 0) ((openMember.setArrays ⟨[], [], [(26, 0x5555)]⟩).setProgrammer
      { State.reset.programmer with op := .pulse (.program 26 0x1555 4 true) })).orders.outbox
        = some ⟨.done, 0x1555⟩ := by decide +kernel

/-! ### Rest and wake -/

/-- A member whose line has carried 31 released rounds. -/
def tired : State := member.setRest { State.reset.rest with count := 31 }

theorem test_meets_ThirtyTwoReleasedRoundsRest :
    tired.EndsRound quietOffers ⟨.quiet, released, 0⟩ .none ∧ tired.restComesDue ⟨.quiet, released, 0⟩ = true
      ∧ tired.restarts ⟨.quiet, released, 0⟩ = false := by
  unfold State.EndsRound; decide +kernel
theorem test_meets_ThirtyTwoReleasedRoundsRest_alert_pending :
    let s := tired.setMonitors ⟨Vector.replicate 8 ⟨2, false, true⟩, true⟩
    let t := after (.enterDormant ⟨.quiet, released, 0⟩ noStart) s
    let u := after (.enterDormant ⟨.quiet, released, 0⟩ noStart) tired
    s.EndsRound quietOffers ⟨.quiet, released, 0⟩ .none ∧ s.restComesDue ⟨.quiet, released, 0⟩ = true
      ∧ s.restarts ⟨.quiet, released, 0⟩ = false ∧ t.monitors = ⟨Vector.replicate 8 ⟨0, false, true⟩, true⟩
      ∧ t.rest.waking = true ∧ t.line.pattern = some 0 ∧ t.line.detector = .idle
      ∧ u.monitors.alertPending = false ∧ u.line.detector = .timing
      ∧ (after (.enterDormant ⟨.quiet, released, 1⟩ noStart) tired).line.detector = .idle := by
  unfold State.EndsRound; decide +kernel
theorem test_meets_ThirtyTwoReleasedRoundsRest_incident :
    let o : Offers := ⟨.none, released, true, false, false, false⟩
    let r : Round := ⟨.incident, released, incidentBody ⟨7, 15, 0, 255⟩⟩
    let s := tired.setMonitors ⟨Vector.replicate 8 ⟨2, false, true⟩, true⟩
    s.EndsRound o r .none ∧ s.restComesDue r = true ∧ s.restarts r = false
      ∧ (after (.enterDormant r noStart) s).monitors = ⟨Vector.replicate 8 ⟨0, false, false⟩, false⟩ := by
  unfold State.EndsRound; decide +kernel
theorem test_thirty_two_released_rounds_rest :
    (after (.enterDormant ⟨.quiet, released, 0xFFFFFFFF⟩ noStart) tired).membership.state = .dormant
      ∧ (after (.enterDormant ⟨.quiet, released, 0xFFFFFFFF⟩ noStart) member).membership.state = .member := by decide +kernel
theorem test_meets_SensingWakesTheStation :
    resting.powered = true ∧ resting.resting = true ∧ resting.rest.sense ≠ none ∧ resting.rest.forced ≠ none
      ∧ (after .senseTimerExpiry resting).sequencer.converter = .sense
      ∧ (after .senseTimerExpiry resting).resting = true := by decide
theorem test_meets_SensingWakesTheStation_trip :
    let st := { defaultSettings openKey with windows := Vector.replicate 8 ⟨100, 200⟩, trip := 1 }
    (submitSample st st.senseInput 99 State.reset.monitors).2 = true
      ∧ (submitSample st st.senseInput 100 State.reset.monitors).2 = false := by decide
theorem test_meets_WakesEndInSeeking_pattern :
    (after .forcedWakeExpiry resting).powered = true ∧ (after .forcedWakeExpiry resting).membership.state = .dormant
      ∧ (after .forcedWakeExpiry resting).line.pattern ≠ none := by decide
theorem test_meets_WakesEndInSeeking_long_low :
    let s := after .longLowTimingStart resting
    s.powered = true ∧ s.resting = true ∧ s.line.detector = .timing ∧ s.line.pattern = none
      ∧ s.settings.wakeThree = true ∧ s.rest.longLows = 0 := by decide
theorem test_meets_WakesEndInSeeking_counts :
    ∃ s t : State, s.resting = true ∧ s.line.detector = .timing ∧ s.line.pattern = none ∧ s.rest.longLows = 1
      ∧ t.resting = true ∧ t.line.detector = .timing ∧ t.line.pattern = none ∧ 2 ≤ t.rest.longLows :=
  ⟨(after .longLowTimingStart resting).setRest { resting.rest with longLows := 1 },
    (after .longLowTimingStart resting).setRest { resting.rest with longLows := 2 }, by decide⟩
theorem test_meets_RisesFallsAndTheWindow :
    resting.powered = true ∧ resting.resting = true ∧ resting.line.detector = .idle
      ∧ (after .longLow (after .longLowTimingStart resting)).resting = true
      ∧ (after .longLow (after .longLowTimingStart resting)).rest.window ≠ none
      ∧ (after .longLow (after .longLowTimingStart resting)).line.heldLow = false := by decide
theorem test_meets_RisesFallsAndTheWindow_held :
    ∃ s : State, s.powered = true ∧ s.line.heldLow = true :=
  ⟨member.setLine { member.line with heldLow := true }, by decide⟩

/-! ### What every step keeps -/

theorem test_meets_the_invariants :
    (member.setPending [.unlock awake 7]).wf = true ∧ ∃ t, step (member.setPending [.unlock awake 7]) = .next t :=
  ⟨by decide +kernel, _, rfl⟩
theorem test_the_invariants_hold_in_a_capture_and_at_rest : (capturing 3).wf = true ∧ resting.wf = true := by
  decide +kernel

end Sys2Proof.Tests
end

section
/-!
The window monitors (R57 to R59): one equation per case of a judgement, what submitting a sample does to each monitor and
to alert pending, and O13 put together from them.
-/

namespace Sys2Proof.Machine

/-- Both limits belong to the window (R57). -/
theorem Window.inside_iff (w : Window) (x : Sample) :
    w.inside x = true ↔ w.low.toNat ≤ x.toNat ∧ x.toNat ≤ w.high.toNat := by
  simp [Window.inside, BitVec.le_def]

/-! ### The cases of a judgement (R58, R59) -/

section
variable {trip : Nat} {w : Window} {x : Sample} {m : Monitor}

theorem Monitor.judge_of_inside (hin : w.inside x = true) :
    m.judge trip w x = ({ m with count := 0, armed := true }, false) := by
  simp [Monitor.judge, hin]

theorem Monitor.judge_of_rise_below_trip (hout : w.inside x = false) (hlt : m.count + 1 < trip) :
    m.judge trip w x = ({ m with count := m.count + 1 }, false) := by
  have hrises : m.count < trip := by omega
  simp [Monitor.judge, hout, hrises, hlt.ne]

theorem Monitor.judge_of_rise_to_trip_armed (hout : w.inside x = false) (heq : m.count + 1 = trip)
    (harmed : m.armed = true) : m.judge trip w x = (⟨trip, false, true⟩, true) := by
  subst heq
  simp [Monitor.judge, hout, harmed]

theorem Monitor.judge_of_rise_to_trip_disarmed (hout : w.inside x = false) (heq : m.count + 1 = trip)
    (hdis : m.armed = false) : m.judge trip w x = ({ m with count := trip }, false) := by
  subst heq
  simp [Monitor.judge, hout, hdis]

theorem Monitor.judge_of_count_at_trip (hout : w.inside x = false) (hfull : trip ≤ m.count) :
    m.judge trip w x = (m, false) := by
  simp [Monitor.judge, hout, hfull.not_gt]

end

/-! ### A submission reaches one monitor (R58) -/

section
variable (st : Settings) (i : Fin 8) (x : Sample) (ms : Monitors)

theorem submitSample_inputs_self :
    (submitSample st i x ms).1.inputs[i] = (ms.inputs[i].judge st.trip st.windows[i] x).1 := by
  simp [submitSample]

theorem submitSample_inputs_of_ne {j : Fin 8} (hne : j ≠ i) :
    (submitSample st i x ms).1.inputs[j] = ms.inputs[j] :=
  Vector.getElem_set_ne i.isLt j.isLt fun h => hne (Fin.ext h.symm)

theorem submitSample_alertPending :
    (submitSample st i x ms).1.alertPending
      = (ms.alertPending || (ms.inputs[i].judge st.trip st.windows[i] x).2) := rfl

variable {st i x ms}

/-- The judgement decides the monitor submitted to and whether alert pending is raised. -/
theorem submitSample_of_judge {m : Monitor} {trips : Bool}
    (hj : ms.inputs[i].judge st.trip st.windows[i] x = (m, trips)) :
    (submitSample st i x ms).1.inputs[i] = m
      ∧ (submitSample st i x ms).1.alertPending = (ms.alertPending || trips) := by
  rw [submitSample_inputs_self, submitSample_alertPending, hj]
  exact ⟨rfl, rfl⟩

/-- A judgement that trips nothing leaves alert pending. -/
theorem submitSample_of_judge_quiet {m : Monitor}
    (hj : ms.inputs[i].judge st.trip st.windows[i] x = (m, false)) :
    (submitSample st i x ms).1.inputs[i] = m ∧ (submitSample st i x ms).1.alertPending = ms.alertPending := by
  simpa using submitSample_of_judge hj

/-- A judgement that trips the input sets alert pending (R59). -/
theorem submitSample_of_judge_trips {m : Monitor}
    (hj : ms.inputs[i].judge st.trip st.windows[i] x = (m, true)) :
    (submitSample st i x ms).1.inputs[i] = m ∧ (submitSample st i x ms).1.alertPending = true := by
  simpa using submitSample_of_judge hj

end

/-- Settles O13, by the cases of the judgement: inside, a rise that stays below the trip setting, a rise to it armed or
disarmed, and a count already there. -/
theorem monitorTripsOnTheSettingsCount : Obligations.MonitorTripsOnTheSettingsCount := by
  refine ⟨Window.inside_iff, fun st i x ms => ⟨?inside, ?below, ?armed, ?disarmed, ?full, ?others⟩⟩
  case inside => exact fun hin => submitSample_of_judge_quiet (Monitor.judge_of_inside hin)
  case below => exact fun hout hlt => submitSample_of_judge_quiet (Monitor.judge_of_rise_below_trip hout hlt)
  case armed => exact fun hout heq harmed =>
    submitSample_of_judge_trips (Monitor.judge_of_rise_to_trip_armed hout heq harmed)
  case disarmed => exact fun hout heq hdis =>
    submitSample_of_judge_quiet (Monitor.judge_of_rise_to_trip_disarmed hout heq hdis)
  case full => exact fun hout hfull => submitSample_of_judge_quiet (Monitor.judge_of_count_at_trip hout hfull)
  case others => exact fun _ hne => submitSample_inputs_of_ne st i x ms hne

end Sys2Proof.Machine
end

section
/-!
The end of a word program (R114) and the commit that goes on from it (R119, R121, R123): what the attempt that ends a
program leaves, what a COMPLETE step makes of a state word, how a commit moves on, and O41 put together from them.
-/

namespace Sys2Proof.Machine

/-! ### The word program in progress ends (R113, R114) -/

/-- The programmer idle again, with the attempt's word in the array and a waiting read served: the state in which what asked
for the word goes on. -/
def State.wordProgrammed (s : State) (w : WordOp) (missed : Word) : State :=
  let m := nvProgram Config.bankWords (s.arrays.bank w.bank) w.address w.value missed
  ((s.setArrays (s.arrays.setBank w.bank m)).setOrders (s.orders.programEnded w.bank m)).beginOp .idle

section
variable (s : State) (w : WordOp) (missed : Word)

@[simp] theorem State.wordProgrammed_store : (s.wordProgrammed w missed).store = s.store := rfl
@[simp] theorem State.wordProgrammed_staging : (s.wordProgrammed w missed).staging = s.staging := rfl
@[simp] theorem State.wordProgrammed_programmer :
    (s.wordProgrammed w missed).programmer = { s.programmer with op := .idle, elapsed := 0 } := rfl
theorem State.wordProgrammed_arrays : (s.wordProgrammed w missed).arrays
    = s.arrays.setBank w.bank (nvProgram Config.bankWords (s.arrays.bank w.bank) w.address w.value missed) := rfl

variable {s w missed}

theorem wordProgrammed_reads_word (hwf : s.arrays.wf = true) (ha : w.address < Config.bankWords) :
    nvRead ((s.wordProgrammed w missed).arrays.bank w.bank) w.address
      = programmedWord (nvRead (s.arrays.bank w.bank) w.address) w.value missed := by
  rw [State.wordProgrammed_arrays, Arrays.bank_setBank_self,
    nvRead_nvProgram (nvWf_rising (Arrays.wf_bank hwf w.bank)) ha, if_pos rfl]

theorem wordProgrammed_reads_other (hwf : s.arrays.wf = true) (ha : w.address < Config.bankWords) {b : BankId} {a : Nat}
    (hne : b ≠ w.bank ∨ a ≠ w.address) :
    nvRead ((s.wordProgrammed w missed).arrays.bank b) a = nvRead (s.arrays.bank b) a := by
  rw [State.wordProgrammed_arrays, Arrays.bank_setBank]
  split
  next hb =>
    subst hb
    have haddr : a ≠ w.address := hne.resolve_left fun h => h rfl
    rw [nvRead_nvProgram (nvWf_rising (Arrays.wf_bank hwf w.bank)) ha, if_neg haddr]
  next => rfl

/-- A verify that passes, or the third attempt, ends the program (R114). -/
theorem attemptEnded_of_ends (hwf : s.arrays.wf = true) (ha : w.address < Config.bankWords)
    (hends : programmedWord (nvRead (s.arrays.bank w.bank) w.address) w.value missed = w.meant
      ∨ Config.maxAttempts ≤ w.attempt) :
    s.attemptEnded w missed = (s.wordProgrammed w missed).wordEnded w
      (programmedWord (nvRead (s.arrays.bank w.bank) w.address) w.value missed == w.meant) := by
  have hread : nvRead (nvProgram Config.bankWords (s.arrays.bank w.bank) w.address w.value missed) w.address
      = programmedWord (nvRead (s.arrays.bank w.bank) w.address) w.value missed := by
    rw [nvRead_nvProgram (nvWf_rising (Arrays.wf_bank hwf w.bank)) ha, if_pos rfl]
  simp only [State.attemptEnded, hread]
  exact if_pos (by simpa using hends)

/-- The command on a word inside its bank is the end of its attempt. -/
theorem exec_wordProgramDone_of_word (hp : s.powered = true) (hop : s.programmer.op = .word w)
    (ha : w.address < Config.bankWords) :
    exec (.wordProgramDone missed) s = .next (s.attemptEnded w missed).refreshFault := by
  have hinside : s.programsOutside = false := by simp [State.programsOutside, hop, ha]
  rw [exec_wordProgramDone missed hp hinside, State.wordProgramDone, hop]

end

/-! ### The COMPLETE step (R119) -/

/-- STARTED by its bits (R119). -/
theorem recordState_started_iff (w : Word) : recordState w = .started
    ↔ w.getLsbD 0 = false ∧ w.getLsbD 3 = true ∧ w.getLsbD 1 = true := by
  by_cases h : w = 0xFFFF
  · subst h; decide
  · unfold recordState erasedWord
    rw [if_neg h]
    cases w.getLsbD 0 <;> cases w.getLsbD 1 <;> cases w.getLsbD 2 <;> cases w.getLsbD 3 <;> simp

/-- The COMPLETE step clears its own bit alone, so a STARTED record with its READ bit set reads COMPLETE. -/
theorem recordState_and_completeStep {old : Word} (hst : recordState old = .started) (hread : old.getLsbD 2 = true) :
    recordState (old &&& completeStep) = .complete := by
  obtain ⟨hstarted, hvoid, -⟩ := (recordState_started_iff old).1 hst
  refine (recordState_complete_iff _).2 ?_
  simpa [completeStep, hvoid, hread] using hstarted

/-! ### A commit goes on (R121, R123) -/

theorem State.wordEnded_of_commitWord_passed {s : State} {w : WordOp} {c : Commit} (hw : w.purpose = .commitWord)
    (hc : s.programmer.commit = some c) : s.wordEnded w true = (s.commitWordWritten c).take := by
  simp [State.wordEnded, hw, hc]

section
variable (s : State) (c : Commit)

@[simp] theorem State.commitWordWritten_arrays : (s.commitWordWritten c).arrays = s.arrays := by
  unfold State.commitWordWritten; split <;> rfl

@[simp] theorem State.commitWordWritten_op : (s.commitWordWritten c).programmer.op = s.programmer.op := by
  unfold State.commitWordWritten; split <;> rfl

variable {s c}

/-- Before the COMPLETE step the commit alone moves on, to its next word (R121). -/
theorem State.commitWordWritten_of_more (hmore : c.next ≠ c.length) : s.commitWordWritten c
    = s.setProgrammer { s.programmer with commit := some { c with next := c.next + 1 } } := if_neg hmore

/-- At the COMPLETE step the commit ends COMPLETE (R123). -/
theorem State.commitWordWritten_of_last (hlast : c.next = c.length) : s.commitWordWritten c = s.commitComplete c :=
  if_pos hlast

/-- What a commit that ends COMPLETE leaves (R109, R123). -/
theorem State.commitComplete_spec : (s.commitComplete c).programmer.commit = none
    ∧ (s.commitComplete c).staging = s.staging.setSlot c.slot .empty
    ∧ (s.commitComplete c).store
      = { s.store with appendPoint := c.start + c.length, unread := s.store.unread + 1 } := ⟨rfl, rfl, rfl⟩

end

/-- The verify of a commit's word passes: the commit goes on from the state with the word programmed, and the programmer
takes its next operation. -/
theorem exec_wordProgramDone_of_commitWord_passed {s : State} {w : WordOp} {c : Commit} {missed : Word}
    (hp : s.powered = true) (hwf : s.arrays.wf = true) (hop : s.programmer.op = .word w) (hw : w.purpose = .commitWord)
    (hc : s.programmer.commit = some c) (ha : w.address < Config.bankWords)
    (hpass : programmedWord (nvRead (s.arrays.bank w.bank) w.address) w.value missed = w.meant) :
    exec (.wordProgramDone missed) s
      = .next ((s.wordProgrammed w missed).commitWordWritten c).take.refreshFault := by
  rw [exec_wordProgramDone_of_word hp hop ha, attemptEnded_of_ends hwf ha (.inl hpass), beq_iff_eq.2 hpass,
    State.wordEnded_of_commitWord_passed (s := s.wordProgrammed w missed) hw hc]

/-- Settles O41: the commit goes on from the programmed word, by the cases of the commit's next word. -/
theorem commitGoesOnToComplete : Obligations.CommitGoesOnToComplete := by
  intro w c missed s hp hwf hop hw hc ha hpass
  refine ⟨(s.wordProgrammed w missed).commitWordWritten c,
    exec_wordProgramDone_of_commitWord_passed hp hwf hop hw hc ha hpass, by simp, ?word, ?frame, ?more, ?last, ?record⟩
  case word => rw [State.commitWordWritten_arrays, wordProgrammed_reads_word hwf ha, hpass]
  case frame =>
    intro b a hne
    rw [State.commitWordWritten_arrays, wordProgrammed_reads_other hwf ha hne]
  case more =>
    intro hmore
    rw [State.commitWordWritten_of_more hmore]
    exact ⟨rfl, rfl, rfl⟩
  case last =>
    intro hlast
    rw [State.commitWordWritten_of_last hlast]
    exact State.commitComplete_spec
  case record =>
    intro _ hbank haddr _ hmeant hstarted hread
    rw [State.commitWordWritten_arrays, ← hbank, ← haddr, wordProgrammed_reads_word hwf ha, hpass, hmeant]
    exact recordState_and_completeStep hstarted hread

end Sys2Proof.Machine
end

section
/-!
Orders and their replies (R139 to R154): what an order this station takes leaves and how its handling stands in the state
the programmer takes from; the first unread record in store order (R116, R119, R120, R145) and O29; RELOCK and LOAD (R151,
R162) and O33; RESTART (R154) and O37.
-/

namespace Sys2Proof.Machine

/-! ### An order taken and handled (R140) -/

/-- The parts of the station an order's handling may move are in `u` as they are in `t`. -/
structure HandledAs (t u : State) : Prop where
  store : u.store = t.store
  programmer : u.programmer = t.programmer
  orders : u.orders = t.orders
  lock : u.lock = t.lock
  setup : u.setup = t.setup

/-- A handling leaves the operation, the commit and the open timer. -/
structure HandlingKeeps (x t : State) : Prop where
  op : t.programmer.op = x.programmer.op
  commit : t.programmer.commit = x.programmer.commit
  openTimer : t.orders.openTimer = x.orders.openTimer

theorem HandlingKeeps.of_eq {x t : State} (hp : t.programmer = x.programmer)
    (ht : t.orders.openTimer = x.orders.openTimer) : HandlingKeeps x t :=
  ⟨congrArg Programmer.op hp, congrArg Programmer.commit hp, ht⟩

theorem State.TakesOrder.powered {s : State} {o : Offers} {out : OfferOutcome} {banner : Banner} {code : OrderCode}
    {arg : Word} (h : s.TakesOrder o out banner code arg) : s.powered = true := by
  obtain ⟨⟨hp, -⟩, -⟩ := h
  exact hp

/-- The round end of an order to this station: accepted in a state `x`, handled there, and the programmer's take from a
state `u` that stands as the handling left it. -/
theorem State.TakesOrder.orderToStation_handled {s : State} {o : Offers} {out : OfferOutcome} {banner : Banner}
    {code : OrderCode} {arg : Word} (h : s.TakesOrder o out banner code arg) (i : StartInputs)
    (hc : code ≠ .restart ∨ s.lock ≠ .opened)
    (hk : ∀ x, Accepts s x code arg → HandlingKeeps x (x.handleOrder code arg)) :
    ∃ x u, Accepts s x code arg ∧ s.orderToStation banner code arg i = u.take ∧ s.OrderLeaves u
      ∧ HandledAs (x.handleOrder code arg) u := by
  obtain ⟨n, hn⟩ := orderToStation_awake h i hc
  have ha := takesOrder_accepts s o out banner code arg
  obtain ⟨hop, hcommit, htimer⟩ := hk _ ha
  exact ⟨_, _, ha, hn, orderLeaves_of_handled h n rfl hop hcommit htimer, ⟨rfl, rfl, rfl, rfl, rfl⟩⟩

/-- An OPEN lock stays so when an order is accepted (R140, R161). -/
theorem Accepts.lock_opened {s x : State} {code : OrderCode} {arg : Word} (h : Accepts s x code arg)
    (hl : s.lock = .opened) : x.lock = .opened := by
  rw [h.lock, hl]
  rfl

/-! ### Which bank is newer (R116) -/

/-- An OPEN bank whose header is not yet written. -/
def Store.Unwritten (t : Store) (m : Arrays) (b : BankId) : Prop :=
  (t.bank b).state = .opened ∧ nvRead (m.bank b) 0 = erasedWord

section
variable {t : Store} {m : Arrays}

theorem newerBank_of_unwritten {b : BankId} (hb : t.Unwritten m b) (ho : ¬t.Unwritten m b.other) :
    newerBank t m = b := by
  cases b with
  | bank0 => exact if_pos hb
  | bank1 => exact (if_neg ho).trans (if_pos hb)

theorem newerBank_of_successor {b : BankId} (h0 : ¬t.Unwritten m .bank0) (h1 : ¬t.Unwritten m .bank1)
    (hs : nvRead (m.bank b) 0 = sequenceSuccessor (nvRead (m.bank b.other) 0)) : newerBank t m = b := by
  rw [newerBank_eq_bySequence h0 h1]
  cases b with
  | bank0 =>
    have hs : nvRead m.bank0 0 = sequenceSuccessor (nvRead m.bank1 0) := hs
    rw [hs]
    exact (newerBySequence_of_successor _).2
  | bank1 =>
    have hs : nvRead m.bank1 0 = sequenceSuccessor (nvRead m.bank0 0) := hs
    rw [hs]
    exact (newerBySequence_of_successor _).1

/-- Sequence values of which neither follows the other go by size. -/
theorem newerBySequence_of_no_successor {v0 v1 : Word} (h0 : v0 ≠ sequenceSuccessor v1)
    (h1 : v1 ≠ sequenceSuccessor v0) : newerBySequence v0 v1 = if v0 < v1 then .bank1 else .bank0 :=
  (if_neg h1).trans (if_neg h0)

theorem newerBank_of_no_successor (h0 : ¬t.Unwritten m .bank0) (h1 : ¬t.Unwritten m .bank1)
    (hs : ∀ b : BankId, nvRead (m.bank b) 0 ≠ sequenceSuccessor (nvRead (m.bank b.other) 0)) :
    newerBank t m = if nvRead m.bank0 0 < nvRead m.bank1 0 then .bank1 else .bank0 := by
  rw [newerBank_eq_bySequence h0 h1]
  exact newerBySequence_of_no_successor (hs .bank0) (hs .bank1)

theorem newerBank_of_greater {b : BankId} (h0 : ¬t.Unwritten m .bank0) (h1 : ¬t.Unwritten m .bank1)
    (hs : ∀ b : BankId, nvRead (m.bank b) 0 ≠ sequenceSuccessor (nvRead (m.bank b.other) 0))
    (hg : (nvRead (m.bank b.other) 0).toNat < (nvRead (m.bank b) 0).toNat) : newerBank t m = b := by
  rw [newerBank_of_no_successor h0 h1 hs]
  cases b with
  | bank0 => exact if_neg fun hlt => Nat.lt_asymm hg (BitVec.lt_def.1 hlt)
  | bank1 => exact if_pos (BitVec.lt_def.2 hg)

theorem newerBank_of_equal (h0 : ¬t.Unwritten m .bank0) (h1 : ¬t.Unwritten m .bank1)
    (hs : ∀ b : BankId, nvRead (m.bank b) 0 ≠ sequenceSuccessor (nvRead (m.bank b.other) 0))
    (he : nvRead m.bank0 0 = nvRead m.bank1 0) : newerBank t m = .bank0 := by
  rw [newerBank_of_no_successor h0 h1 hs, he]
  exact if_neg (BitVec.lt_irrefl _)

end

/-! ### Store order and the first unread record (R119, R120, R145) -/

theorem BankState.holdsRecords_iff (v : BankState) : v.holdsRecords = true ↔ v = .opened ∨ v = .closed := by
  cases v <;> decide

theorem bankRecords_eq (t : Store) (b : BankId) :
    bankRecords t b = if (t.bank b).state = .opened ∨ (t.bank b).state = .closed
      then (t.bank b).records.map (fun x => (b, x)) else [] := by
  simp only [bankRecords, BankState.holdsRecords_iff]

/-- The state word of an unread record: STARTED and COMPLETE cleared, READ and VOID set. -/
def UnreadWord (w : Word) : Prop :=
  w.getLsbD 0 = false ∧ w.getLsbD 1 = false ∧ w.getLsbD 2 = true ∧ w.getLsbD 3 = true

theorem extentState_complete_iff (m : Nv) (x : Extent) :
    extentState m x = .complete ↔ UnreadWord (nvRead m x.position) := by
  unfold extentState UnreadWord
  rw [recordState_complete_iff]
  tauto

theorem oldestUnread_eq_none_iff (t : Store) (m : Arrays) :
    oldestUnread t m = none ↔ ∀ y ∈ storeOrder t m, ¬UnreadWord (nvRead (m.bank y.1) y.2.position) := by
  simp [oldestUnread, ← extentState_complete_iff]

theorem oldestUnread_eq_some_iff_unreadWord (t : Store) (m : Arrays) (y : BankId × Extent) :
    oldestUnread t m = some y ↔ UnreadWord (nvRead (m.bank y.1) y.2.position)
      ∧ ∃ before after, storeOrder t m = before ++ y :: after
        ∧ ∀ z ∈ before, ¬UnreadWord (nvRead (m.bank z.1) z.2.position) := by
  simp only [oldestUnread_eq_some_iff, ← extentState_complete_iff, ne_eq]

/-! ### A record's stream begins (R147) -/

/-- The read of a record's word waits for a word program in its bank (R130). -/
theorem readStream_record_of_programming {s : State} {b : BankId} (p n k : Nat) (q : Word)
    (h : s.programmer.programming b = true) :
    (s.readStream (.record b p n k q)).orders.outbox = s.orders.outbox
      ∧ (s.readStream (.record b p n k q)).orders.read = .waiting := by
  simp [State.readStream, h]

theorem Stream.atLast_record (b : BankId) (p n k : Nat) (q : Word) :
    (Stream.record b p n k q).atLast = true ↔ n = k + 1 := by
  rw [Stream.atLast, beq_iff_eq, eq_comm]

/-- A record's word read at once is loaded as DATA, or as LAST if it is the record's last. -/
theorem readStream_record_of_quiet {s : State} {b : BankId} (p n k : Nat) (q : Word)
    (h : s.programmer.programming b = false) :
    (s.readStream (.record b p n k q)).orders.outbox
      = some ⟨if n = k + 1 then .last else .data, nvRead (s.arrays.bank b) (p + k)⟩ := by
  simp [State.readStream, h, State.loadStreamWord, Stream.atLast_record]

/-! ### FETCH 0 (R145) -/

theorem handleOrder_fetch_zero {x : State} (hl : x.lock = .opened) : x.handleOrder .fetch 0 = x.fetchOldest := by
  simp [State.handleOrder, State.fetchOrder, hl]

theorem fetchOldest_of_none {x : State} (h : oldestUnread x.store x.arrays = none) :
    x.fetchOldest = x.loadReply .absent 0 := by
  simp [State.fetchOldest, h]

theorem fetchOldest_of_some {x : State} {b : BankId} {y : Extent} (h : oldestUnread x.store x.arrays = some (b, y)) :
    x.fetchOldest = x.readStream (.record b y.position y.length 0 (nvRead (x.arrays.bank b) (y.position + 2))) := by
  simp [State.fetchOldest, h, extentPrimary]

/-- FETCH 0 leaves all but the outbox, the stream and its read. -/
theorem fetchOldest_keeps (x : State) :
    x.fetchOldest.programmer = x.programmer ∧ x.fetchOldest.orders.openTimer = x.orders.openTimer
      ∧ x.fetchOldest.store = x.store ∧ x.fetchOldest.lock = x.lock
      ∧ x.fetchOldest.orders.awaited = x.orders.awaited ∧ x.fetchOldest.orders.holding = x.orders.holding := by
  unfold State.fetchOldest
  split
  · exact ⟨rfl, rfl, rfl, rfl, rfl, rfl⟩
  · next y _ =>
    obtain ⟨hprogrammer, htimer, hstore, hlock, -, -, hholding, hawaited, -⟩ := readStream_keeps x
      (.record y.1 y.2.position y.2.length 0 (extentPrimary (x.arrays.bank y.1) y.2))
    exact ⟨hprogrammer, htimer, hstore, hlock, hawaited, hholding⟩

/-- FETCH 0 with the lock OPEN: the oldest unread record is looked up in the state in which the order is accepted. -/
theorem exec_fetchOldestUnread_of_opened {s : State} {o : Offers} {out : OfferOutcome} {banner : Banner}
    (h : s.TakesOrder o out banner .fetch 0) (hl : s.lock = .opened) :
    ∃ x u : State, Accepts s x .fetch 0 ∧ exec (.fetchOldestUnread banner) s = .next u.take.refreshFault
      ∧ s.OrderLeaves u ∧ HandledAs x.fetchOldest u := by
  have hfetch {x : State} (ha : Accepts s x .fetch 0) : x.handleOrder .fetch 0 = x.fetchOldest :=
    handleOrder_fetch_zero (ha.lock_opened hl)
  obtain ⟨x, u, ha, hu, hleaves, has⟩ := h.orderToStation_handled noStart (.inl nofun) fun x ha => by
    obtain ⟨hprogrammer, htimer, -⟩ := fetchOldest_keeps x
    rw [hfetch ha]
    exact .of_eq hprogrammer htimer
  rw [hfetch ha] at has
  exact ⟨x, u, ha, by rw [exec_fetchOldestUnread banner h.powered, hu], hleaves, has⟩

/-- Settles O29: store order and the first unread record by their lookups, the order by whether there is one. -/
theorem fetchOldestStreamsTheFirstUnread : Obligations.FetchOldestStreamsTheFirstUnread := by
  refine ⟨fun t m => ?order, fun t m => ?newer, fun t m => ?unread, ?fetch⟩
  case order => exact congrArg₂ (· ++ ·) (bankRecords_eq t _) (bankRecords_eq t _)
  case newer =>
    refine ⟨fun b => newerBank_of_unwritten, fun h0 h1 => ⟨fun b => newerBank_of_successor h0 h1, fun hs => ⟨?_, ?_⟩⟩⟩
    · exact fun b => newerBank_of_greater h0 h1 hs
    · exact newerBank_of_equal h0 h1 hs
  case unread => exact ⟨oldestUnread_eq_none_iff t m, oldestUnread_eq_some_iff_unreadWord t m⟩
  case fetch =>
    intro o out banner s h hl
    obtain ⟨x, u, ha, hexec, hleaves, has⟩ := exec_fetchOldestUnread_of_opened h hl
    obtain ⟨-, -, hstore, hlock, hawaited, hholding⟩ := fetchOldest_keeps x
    refine ⟨u, hexec, hleaves, has.store.trans (hstore.trans ha.store),
      has.lock.trans (hlock.trans (ha.lock_opened hl)), ?_⟩
    rw [has.orders, hawaited, hholding, ← ha.store, ← ha.arrays]
    refine ⟨ha.awaited, ha.holding, ?absent, ?stream⟩
    case absent =>
      intro hnone
      rw [fetchOldest_of_none hnone]
      exact ⟨rfl, ha.stream⟩
    case stream =>
      intro b y hsome
      have hprogramming : x.programmer.programming b = s.programmer.programming b := by
        rw [ha.programmer, programming_forgetAnswers]
      rw [fetchOldest_of_some hsome, ← hprogramming]
      obtain ⟨-, -, -, -, -, hstream, -⟩ := readStream_keeps x
        (.record b y.position y.length 0 (nvRead (x.arrays.bank b) (y.position + 2)))
      refine ⟨hstream, fun hbusy => ?waiting, fun hquiet => readStream_record_of_quiet _ _ _ _ hquiet⟩
      case waiting =>
        obtain ⟨houtbox, hread⟩ := readStream_record_of_programming y.position y.length 0
          (nvRead (x.arrays.bank b) (y.position + 2)) hbusy
        exact ⟨houtbox.trans ha.outbox, hread⟩

/-! ### RELOCK and LOAD (R151, R162) -/

/-- RELOCK does not need the lock OPEN (R164). -/
theorem handleOrder_relock (x : State) (arg : Word) : x.handleOrder .relock arg = x.relockOrder := rfl

theorem handleOrder_load {x : State} (hl : x.lock = .opened) (arg : Word) :
    x.handleOrder .load arg = x.loadOrder arg := by
  simp [State.handleOrder, hl]

/-- Settles O33: each order's handling from the state in which it is accepted. -/
theorem relockAndLoadAnswerDone : Obligations.RelockAndLoadAnswerDone := by
  intro o out banner arg s
  refine ⟨fun h => ?relock, fun h hl => ?load⟩
  case relock =>
    obtain ⟨x, u, ha, hu, hleaves, has⟩ := h.orderToStation_handled noStart (.inl nofun) fun x _ => by
      rw [handleOrder_relock]
      exact .of_eq rfl rfl
    rw [handleOrder_relock] at has
    refine ⟨u, by rw [exec_relock banner arg h.powered, hu], hleaves, has.store.trans ha.store, has.lock, ?_⟩
    rw [has.orders]
    exact ⟨rfl, ha.stream, ha.awaited, ha.holding⟩
  case load =>
    obtain ⟨x, u, ha, hu, hleaves, has⟩ := h.orderToStation_handled noStart (.inl nofun) fun x ha => by
      rw [handleOrder_load (ha.lock_opened hl)]
      exact .of_eq rfl rfl
    rw [handleOrder_load (ha.lock_opened hl)] at has
    refine ⟨u, by rw [exec_load banner arg h.powered, hu], hleaves, has.store.trans ha.store,
      has.lock.trans (ha.lock_opened hl), ?_⟩
    rw [has.orders]
    exact ⟨rfl, rfl, rfl, rfl, ha.stream⟩

/-! ### RESTART (R154) -/

/-- A MEMBER whose lock is OPEN restarts at the end of a round with a RESTART to it. -/
theorem restarts_orderRound {s : State} (hm : s.membership.state = .member) (hl : s.lock = .opened) (banner : Banner)
    (arg : Word) : s.restarts (s.orderRound banner .restart arg) = true := by
  simp [State.restarts, State.takenOrder_orderBody, hm, hl]

theorem orderToStation_restart {s : State} {o : Offers} {out : OfferOutcome} {banner : Banner} {arg : Word}
    (h : s.TakesOrder o out banner .restart arg) (hl : s.lock = .opened) (i : StartInputs) :
    s.orderToStation banner .restart arg i = s.started i := by
  obtain ⟨hends, hm, -⟩ := h
  calc s.orderToStation banner .restart arg i
      = s.roundEnd (s.orderRound banner .restart arg) i := rfl
    _ = s.started i := by rw [State.roundEnd_of_endsRound hends, restarts_orderRound hm hl, if_pos rfl]

/-- Settles O37: the round end is a start, whose Order Unit, lock and staging are the reset's. -/
theorem restartIsAStart : Obligations.RestartIsAStart := by
  intro o out banner arg i s h hl
  have hrestart : exec (.restart banner arg i) s = .next (s.started i).refreshFault := by
    rw [exec_restart banner arg i h.powered, orderToStation_restart h hl i]
  exact ⟨hrestart, _, hrestart, rfl, rfl, rfl⟩

end Sys2Proof.Machine
end

section
/-!
The Readout Lock under UNLOCK (R157 to R160): where each class of key and each lock state takes it, and O32.
-/

namespace Sys2Proof.Machine

/-! ### The lock by the class of the key (R157 to R160) -/

section
variable {k : Key}

/-- A key of all ones opens the lock from every state (R158). -/
theorem Lock.unlock_of_allOnes (hk : k = ⟨0xFFFF, 0xFFFF, 0xFFFF⟩) (l : Lock) (part : Word) :
    l.unlock k part = (.opened, ⟨.done, 3⟩) := by
  subst hk
  rfl

/-- Under a key of all zeros an UNLOCK is refused and the lock LOCKED (R159). -/
theorem Lock.unlock_of_allZeros (hk : k = ⟨0, 0, 0⟩) (l : Lock) (part : Word) :
    l.unlock k part = (.locked, ⟨.refused, 3⟩) := by
  subst hk
  rfl

theorem Key.classOf_split (hones : k ≠ ⟨0xFFFF, 0xFFFF, 0xFFFF⟩) (hzeros : k ≠ ⟨0, 0, 0⟩) : k.classOf = .split :=
  (if_neg hones).trans (if_neg hzeros)

/-- A split key's part is compared with the lock's state; an OPEN lock compares nothing (R160). -/
theorem Lock.unlock_of_split (hk : k.classOf = .split) (part : Word) :
    Lock.locked.unlock k part = matchPart part k.part1 .key1 ⟨.pending, 1⟩
      ∧ Lock.key1.unlock k part = matchPart part k.part2 .key2 ⟨.pending, 2⟩
      ∧ Lock.key2.unlock k part = matchPart part k.part3 .opened ⟨.done, 3⟩
      ∧ Lock.opened.unlock k part = (.opened, ⟨.done, 3⟩) := by
  simp only [Lock.unlock, hk, and_self]

end

theorem matchPart_of_eq {part want : Word} (h : part = want) (next : Lock) (r : Reply) :
    matchPart part want next r = (next, r) := if_pos h

/-- A part that does not match locks the station again (R160). -/
theorem matchPart_of_ne {part want : Word} (h : part ≠ want) (next : Lock) (r : Reply) :
    matchPart part want next r = (.locked, ⟨.locked, 0⟩) := if_neg h

/-! ### UNLOCK (R153, R160) -/

/-- UNLOCK does not need the lock OPEN (R164). -/
theorem handleOrder_unlock (x : State) (part : Word) : x.handleOrder .unlock part = x.unlockOrder part := rfl

/-- An UNLOCK lets a key sequence under way go on (R161). -/
theorem Lock.orderTaken_unlock (l : Lock) : l.orderTaken .unlock = l := by
  cases l <;> rfl

/-- UNLOCK taken: the lock and the reply are those of the lock state met and the key in force. -/
theorem exec_unlock_of_takesOrder {s : State} {o : Offers} {out : OfferOutcome} {banner : Banner} {part : Word}
    (h : s.TakesOrder o out banner .unlock part) :
    ∃ u : State, exec (.unlock banner part) s = .next u.take.refreshFault ∧ s.OrderLeaves u ∧ u.store = s.store
      ∧ u.orders.holding = s.orders.holding ∧ u.orders.stream = none
      ∧ u.lock = (s.lock.unlock s.settings.key part).1
      ∧ u.orders.outbox = some (s.lock.unlock s.settings.key part).2 := by
  obtain ⟨x, u, ha, hu, hleaves, has⟩ := h.orderToStation_handled noStart (.inl nofun) fun x _ => by
    rw [handleOrder_unlock]
    exact .of_eq rfl rfl
  rw [handleOrder_unlock] at has
  have hlock : x.lock = s.lock := ha.lock.trans s.lock.orderTaken_unlock
  refine ⟨u, by rw [exec_unlock banner part h.powered, hu], hleaves, has.store.trans ha.store, ?_⟩
  rw [has.orders, has.lock, ← hlock, ← ha.settings]
  exact ⟨ha.holding, ha.stream, rfl, rfl⟩

/-- Settles O32: the lock and reply of `Lock.unlock`, by the class of the key, the lock state, and whether the part
matches. -/
theorem unlockMovesTheLock : Obligations.UnlockMovesTheLock := by
  intro o out banner part s h
  obtain ⟨u, hexec, hleaves, hstore, hholding, hstream, hlock, houtbox⟩ := exec_unlock_of_takesOrder h
  have moves {l : Lock} {r : Reply} (hu : s.lock.unlock s.settings.key part = (l, r)) :
      u.lock = l ∧ u.orders.outbox = some r := by
    rw [hlock, houtbox, hu]
    exact ⟨rfl, rfl⟩
  refine ⟨u, hexec, hleaves, hstore, hholding, hstream, fun hones => ?allOnes, fun hzeros => ?allZeros,
    fun hones hzeros => ?split⟩
  case allOnes => exact moves (Lock.unlock_of_allOnes hones _ _)
  case allZeros => exact moves (Lock.unlock_of_allZeros hzeros _ _)
  case split =>
    obtain ⟨hfirst, hsecond, hthird, hopen⟩ := Lock.unlock_of_split (Key.classOf_split hones hzeros) part
    refine ⟨fun hl hp => moves ?_, fun hl hp => moves ?_, fun hl hp => moves ?_, fun hl hp => moves ?_,
      fun hl hp => moves ?_, fun hl hp => moves ?_, fun hl => moves ?_⟩
    · rw [hl, hfirst, matchPart_of_eq hp]
    · rw [hl, hfirst, matchPart_of_ne hp]
    · rw [hl, hsecond, matchPart_of_eq hp]
    · rw [hl, hsecond, matchPart_of_ne hp]
    · rw [hl, hthird, matchPart_of_eq hp]
    · rw [hl, hthird, matchPart_of_ne hp]
    · rw [hl, hopen]

end Sys2Proof.Machine
end

section
/-!
ERASE of the setup block (R172): what a setup pulse order keeps and what each of its outcomes leaves, which outcome ERASE 2
has, and O36.
-/

namespace Sys2Proof.Machine

/-! ### Setup pulse orders (R170, R172) -/

/-- A setup pulse order leaves the store, the lock, the holding word and the stream besides what every handling leaves. -/
structure PulseOrderKeeps (x t : State) : Prop extends HandlingKeeps x t where
  store : t.store = x.store
  lock : t.lock = x.lock
  holding : t.orders.holding = x.orders.holding
  stream : t.orders.stream = x.orders.stream

section
variable (x : State)

theorem pulseBusy_keeps (arg : Word) : PulseOrderKeeps x (x.pulseBusy arg) := ⟨.of_eq rfl rfl, rfl, rfl, rfl, rfl⟩

theorem pulseLast_keeps (w : Owed) (p : Pulse) : PulseOrderKeeps x (x.pulseLast w p) :=
  ⟨⟨rfl, rfl, rfl⟩, rfl, rfl, rfl, rfl⟩

theorem pulsePending_keeps (k : Nat) (i : PulseIndex) (p : Pulse) : PulseOrderKeeps x (x.pulsePending k i p) :=
  ⟨⟨rfl, rfl, rfl⟩, rfl, rfl, rfl, rfl⟩

/-- A setup pulse order met during a bank erase hands nothing and breaks the sequence. -/
theorem pulseBusy_spec (arg : Word) : (x.pulseBusy arg).orders.outbox = some ⟨.busy, arg⟩
    ∧ (x.pulseBusy arg).orders.pulseCount = 0 ∧ (x.pulseBusy arg).orders.pulseIndex = none
    ∧ (x.pulseBusy arg).setup = x.setup ∧ (x.pulseBusy arg).programmer.pulses = x.programmer.pulses :=
  ⟨rfl, rfl, rfl, rfl, rfl⟩

/-- The last pulse of a sequence is handed without a reply: its answer is owed. -/
theorem pulseLast_spec (w : Owed) (p : Pulse) : (x.pulseLast w p).orders.outbox = x.orders.outbox
    ∧ (x.pulseLast w p).orders.pulseCount = 0 ∧ (x.pulseLast w p).orders.pulseIndex = none
    ∧ (x.pulseLast w p).setup.owed = w ∧ (x.pulseLast w p).programmer.pulses = x.programmer.pulses ++ [p] :=
  ⟨rfl, rfl, rfl, rfl, rfl⟩

/-- An earlier pulse of a sequence is counted, handed and answered PENDING with the new count. -/
theorem pulsePending_spec (k : Nat) (i : PulseIndex) (p : Pulse) :
    (x.pulsePending k i p).orders.outbox = some ⟨.pending, BitVec.ofNat 16 k⟩
      ∧ (x.pulsePending k i p).orders.pulseCount = k ∧ (x.pulsePending k i p).orders.pulseIndex = some i
      ∧ (x.pulsePending k i p).setup = x.setup
      ∧ (x.pulsePending k i p).programmer.pulses = x.programmer.pulses ++ [p] :=
  ⟨rfl, rfl, rfl, rfl, rfl⟩

end

/-! ### ERASE 2 (R172) -/

section
variable {x : State}

theorem handleOrder_erase_two (hl : x.lock = .opened) : x.handleOrder .erase 2 = x.eraseSetupOrder := by
  simp [State.handleOrder, State.eraseOrder, hl]

theorem eraseSetupOrder_of_erasing (he : x.bankErasing = true) : x.eraseSetupOrder = x.pulseBusy 2 := if_pos he

theorem eraseSetupOrder_of_eighth (he : x.bankErasing = false) (hk : x.orders.pulseCount + 1 = 8) :
    x.eraseSetupOrder = x.pulseLast .erase (.erase 8 true) := by
  simp [State.eraseSetupOrder, he, hk]

theorem eraseSetupOrder_of_earlier (he : x.bankErasing = false) (hk : x.orders.pulseCount + 1 ≠ 8) :
    x.eraseSetupOrder
      = x.pulsePending (x.orders.pulseCount + 1) .erase (.erase (x.orders.pulseCount + 1) false) := by
  simp only [State.eraseSetupOrder, he, if_neg hk, Bool.false_eq_true, if_false]

theorem eraseSetupOrder_keeps (x : State) : PulseOrderKeeps x x.eraseSetupOrder := by
  unfold State.eraseSetupOrder
  split
  · exact pulseBusy_keeps x _
  · split
    · exact pulseLast_keeps x _ _
    · exact pulsePending_keeps x _ _ _

end

/-- The number of the erase pulse ordered: one past the count of an erase sequence under way, else 1 (R140, R172). -/
theorem Accepts.erasePulse_number {s x : State} (h : Accepts s x .erase 2) : x.orders.pulseCount + 1
    = if s.orders.pulseIndex = some .erase then s.orders.pulseCount + 1 else 1 := by
  rw [h.count]
  by_cases hi : s.orders.pulseIndex = some .erase <;> simp [Orders.keepsCount, hi]

/-- ERASE 2 with the lock OPEN is the erase pulse order of the state in which it is accepted. -/
theorem exec_eraseSetupPulse_of_opened {s : State} {o : Offers} {out : OfferOutcome} {banner : Banner}
    (h : s.TakesOrder o out banner .erase 2) (hl : s.lock = .opened) :
    ∃ x u : State, Accepts s x .erase 2 ∧ exec (.eraseSetupPulse banner) s = .next u.take.refreshFault
      ∧ s.OrderLeaves u ∧ HandledAs x.eraseSetupOrder u := by
  have herase {x : State} (ha : Accepts s x .erase 2) : x.handleOrder .erase 2 = x.eraseSetupOrder :=
    handleOrder_erase_two (ha.lock_opened hl)
  obtain ⟨x, u, ha, hu, hleaves, has⟩ := h.orderToStation_handled noStart (.inl nofun) fun x ha => by
    rw [herase ha]
    exact (eraseSetupOrder_keeps x).toHandlingKeeps
  rw [herase ha] at has
  exact ⟨x, u, ha, by rw [exec_eraseSetupPulse banner h.powered, hu], hleaves, has⟩

/-- Settles O36: the erase pulse order by its outcomes, a bank erase in progress, the eighth pulse, an earlier one. -/
theorem eraseSetupHandsOnePulse : Obligations.EraseSetupHandsOnePulse := by
  intro o out banner s h hl
  obtain ⟨x, u, ha, hexec, hleaves, has⟩ := exec_eraseSetupPulse_of_opened h hl
  have hkeeps := eraseSetupOrder_keeps x
  have herasing : x.bankErasing = s.bankErasing := bankErasing_forgetAnswers ha.programmer
  have hnotOwed : x.setup.owed = .none := by rw [ha.setup]
  refine ⟨u, hexec, hleaves, has.store.trans (hkeeps.store.trans ha.store),
    has.lock.trans (hkeeps.lock.trans (ha.lock_opened hl)), ?_⟩
  rw [has.orders, has.setup, has.programmer, hkeeps.holding, hkeeps.stream, ← herasing, ← ha.erasePulse_number,
    ← ha.programmer]
  refine ⟨ha.holding, ha.stream, fun he => ?busy, fun he => ⟨fun hk => ?eighth, fun hk => ?earlier⟩⟩
  case busy =>
    obtain ⟨houtbox, hcount, hindex, hsetup, hpulses⟩ := pulseBusy_spec x 2
    rw [eraseSetupOrder_of_erasing he]
    exact ⟨houtbox, hcount, hindex, hsetup ▸ hnotOwed, hpulses⟩
  case eighth =>
    obtain ⟨houtbox, hcount, hindex, howed, hpulses⟩ := pulseLast_spec x .erase (.erase 8 true)
    rw [eraseSetupOrder_of_eighth he hk]
    exact ⟨houtbox.trans ha.outbox, hcount, hindex, howed, hpulses⟩
  case earlier =>
    obtain ⟨houtbox, hcount, hindex, hsetup, hpulses⟩ :=
      pulsePending_spec x (x.orders.pulseCount + 1) .erase (.erase (x.orders.pulseCount + 1) false)
    rw [eraseSetupOrder_of_earlier he hk]
    exact ⟨houtbox, hcount, hindex, hsetup ▸ hnotOwed, hpulses⟩

end Sys2Proof.Machine
end

section
/-!
What a step can do, said once: a tick, a start, the loss of the supply, or one of the station's reactions. Every invariant of
the steps is proved from these cases (O56 to O60), and O1 is the step with a command waiting.
-/

namespace Sys2Proof.Machine

/-! ### A station's reactions -/

/-- What a command that is no start and no loss of the supply can make of a station that has power. -/
inductive Reaction (s : State) : State → Prop
  | nothing : Reaction s s
  | setupValidation : Reaction s s.setupValidation
  | startupScan : Reaction s s.startupScan
  | alignByMarks : Reaction s s.alignByMarks
  | markSearchEdge (interval : Nat) : Reaction s (s.markSearchEdge interval)
  | silenceTimerExpiry (lineHigh : Bool) (draw : BitVec 6) : Reaction s (s.silenceTimerExpiry lineHigh draw)
  | edgeDuringBackoff (fell : Bool) : Reaction s (s.edgeDuringBackoff fell)
  | openLine : Reaction s s.openLine
  | lineEdge (e : LineEdge) : Reaction s (s.lineEdge e)
  | driverFault : Reaction s s.driverFault
  | lineRise : Reaction s s.lineRise
  | markSlot (code : BitVec 16) : Reaction s (s.markSlot code)
  | burstPoint (d : Nat) : Reaction s (s.burstPoint d)
  | surveyConversionDone (x : Sample) : Reaction s (s.surveyConversionDone x)
  | burstConversionDone (x : Sample) : Reaction s (s.burstConversionDone x)
  | missedRound (hr : s.line.round = none) :
      Reaction s (s.setLine { s.line with burstPoints := 0, position := 0, phase := .q1, phaseTime := 0 })
  | started (i : StartInputs) : Reaction s (s.started i)
  | closeRound (o : Offers) (r : Round) (out : OfferOutcome) (h : s.EndsRound o r out) :
      Reaction s (s.closeRound o r out)
  | streamWordLoad : Reaction s s.streamWordLoad
  | alertPulseEnd : Reaction s s.alertPulseEnd
  | wordProgramDone (missed : Word) : Reaction s (s.wordProgramDone missed)
  | bankEraseDone (unset : WordMasks) (missed : Word) : Reaction s (s.bankEraseDone unset missed)
  | setupProgramPulseDone (missed : Word) : Reaction s (s.setupProgramPulseDone missed)
  | setupErasePulseDone (unset : WordMasks) : Reaction s (s.setupErasePulseDone unset)
  | senseTimerExpiry : Reaction s s.senseTimerExpiry
  | senseConversionDone (x : Sample) : Reaction s (s.senseConversionDone x)
  | forcedWakeExpiry : Reaction s s.forcedWakeExpiry
  | wakePatternEnd : Reaction s s.wakePatternEnd
  | longLow : Reaction s s.longLow
  | longLowTimingStart : Reaction s s.longLowTimingStart
  | patternWindowExpiry : Reaction s s.patternWindowExpiry

/-- The end of a round (R13), by its cases: no round end, one without offers, a driver fault, a RESTART, or the reactions. -/
theorem roundEnd_reaction {s : State} (hp : s.powered = true) (r : Round) (i : StartInputs) :
    Reaction s (s.roundEnd r i) := by
  unfold State.roundEnd
  split
  next hal =>
    obtain ⟨ha, hl⟩ : s.line.align = .aligned ∧ s.onLine = true := by simpa using hal
    split
    next hr => exact .missedRound hr
    next o hr =>
      split
      next => exact .driverFault
      next out hs =>
        split
        next => exact .started i
        next => exact .closeRound o r out ⟨hp, ha, hl, hr, hs⟩
  next => exact .nothing

theorem roundEndIf_reaction {s : State} (hp : s.powered = true) (due : Bool) (r : Round) (i : StartInputs) :
    Reaction s (s.roundEndIf due r i) := by
  unfold State.roundEndIf
  split
  · exact roundEnd_reaction hp r i
  · exact .nothing

theorem driverFaultFound_reaction (s : State) : Reaction s s.driverFaultFound := by
  unfold State.driverFaultFound
  split
  · exact .driverFault
  · exact .nothing

/-! ### A command and a step -/

/-- The states a command can answer. -/
inductive Answers (s : State) : State → Prop
  | unpowered (hp : s.powered = false) : Answers s s
  | started (i : StartInputs) : Answers s (s.started i).refreshFault
  | powerLost (c : Cut) : Answers s (s.unpowered c)
  | reacted {u : State} (hp : s.powered = true) (hu : Reaction s u) : Answers s u.refreshFault

theorem act_answers {s t : State} {f : State → State} (hf : s.powered = true → Reaction s (f s))
    (h : act s f = .next t) : Answers s t := by
  cases hp : s.powered with
  | false =>
    rw [act_unpowered hp] at h
    cases h
    exact .unpowered hp
  | true =>
    rw [act_powered hp] at h
    cases h
    exact .reacted hp (hf hp)

/-- Every command that answers a next state answers one of these. -/
theorem exec_answers {c : Instr} {s t : State} (h : exec c s = .next t) : Answers s t := by
  cases c with
  | start i => cases h; exact .started i
  | powerLoss cut => cases h; exact .powerLost cut
  | setupValidation => exact act_answers (fun _ => .setupValidation) h
  | startupScan => exact act_answers (fun _ => .startupScan) h
  | alignByMarks => exact act_answers (fun _ => .alignByMarks) h
  | markSearchEdge n => exact act_answers (fun _ => .markSearchEdge n) h
  | silenceTimerExpiry b d => exact act_answers (fun _ => .silenceTimerExpiry b d) h
  | edgeDuringBackoff b => exact act_answers (fun _ => .edgeDuringBackoff b) h
  | openLine => exact act_answers (fun _ => .openLine) h
  | foreignPulse e => exact act_answers (fun _ => .lineEdge e) h
  | driverFault => exact act_answers (fun _ => driverFaultFound_reaction s) h
  | lineRise => exact act_answers (fun _ => .lineRise) h
  | markSlot code => exact act_answers (fun _ => .markSlot code) h
  | burstPoint d => exact act_answers (fun _ => .burstPoint d.val) h
  | surveyConversionDone x => exact act_answers (f := fun s => s.surveyConversionDone x) (fun _ => .surveyConversionDone x) h
  | burstConversionDone x => exact act_answers (f := fun s => s.burstConversionDone x) (fun _ => .burstConversionDone x) h
  | rollTimerDue r i => exact act_answers (fun hp => roundEndIf_reaction hp _ r i) h
  | openTimerExpiry r i => exact act_answers (fun hp => roundEndIf_reaction hp _ r i) h
  | captureEnd r i => exact act_answers (fun hp => roundEndIf_reaction hp _ r i) h
  | enterDormant r i => exact act_answers (fun hp => roundEndIf_reaction hp _ r i) h
  | quietRound _ _ _ | incidentRound _ _ | probeRound _ _ | rollRound _ _ | epochRound _ _ | replyRound _ _
  | orderRound _ _ _ | fetch _ _ | fetchOldestUnread _ | fetchStatus _ | mark _ _ | unlock _ _ | relock _ _ | load _ _
  | program _ _ | erase _ _ | eraseSetupPulse _ | restart _ _ _ =>
    exact act_answers (fun hp => roundEnd_reaction hp _ _) h
  | streamWordLoad => exact act_answers (fun _ => .streamWordLoad) h
  | alertPulseEnd => exact act_answers (fun _ => .alertPulseEnd) h
  | wordProgramDone missed =>
    have h : execWordProgramDone missed s = .next t := h
    unfold execWordProgramDone at h
    split at h
    · cases h
    · exact act_answers (fun _ => .wordProgramDone missed) h
  | bankEraseDone u m => exact act_answers (f := fun s => s.bankEraseDone u m) (fun _ => .bankEraseDone u m) h
  | setupProgramPulseDone m => exact act_answers (f := fun s => s.setupProgramPulseDone m) (fun _ => .setupProgramPulseDone m) h
  | setupErasePulseDone u => exact act_answers (f := fun s => s.setupErasePulseDone u) (fun _ => .setupErasePulseDone u) h
  | senseTimerExpiry => exact act_answers (fun _ => .senseTimerExpiry) h
  | senseConversionDone x => exact act_answers (fun _ => .senseConversionDone x) h
  | forcedWakeExpiry => exact act_answers (fun _ => .forcedWakeExpiry) h
  | wakePatternEnd => exact act_answers (fun _ => .wakePatternEnd) h
  | longLow => exact act_answers (fun _ => .longLow) h
  | longLowTimingStart => exact act_answers (fun _ => .longLowTimingStart) h
  | patternWindowExpiry => exact act_answers (fun _ => .patternWindowExpiry) h

/-- A step is a tick of a station with no command waiting, or the front command on the rest of the queue. -/
theorem step_cases {s t : State} (h : step s = .next t) :
    (s.pending = [] ∧ t = s.tick) ∨ ∃ rest, Answers (s.setPending rest) t := by
  unfold step at h
  split at h
  next hq =>
    cases h
    exact .inl ⟨hq, rfl⟩
  next c rest _ => exact .inr ⟨rest, exec_answers h⟩

/-- Settles O1, by the definition of a step. -/
theorem stepRunsTheFrontCommand : Obligations.StepRunsTheFrontCommand := by
  intro c rest s
  simp only [step, State.setPending_pending, State.setPending_setPending]

/-! ### Invariants of the steps -/

/-- A condition on the state that everything a step is made of keeps. -/
structure StepInvariant (P : State → Prop) : Prop where
  setPending : ∀ (s : State) (v : List Instr), P s → P (s.setPending v)
  refreshFault : ∀ s : State, P s → P s.refreshFault
  started : ∀ (s : State) (i : StartInputs), P s → P (s.started i)
  unpowered : ∀ (s : State) (c : Cut), P s → P (s.unpowered c)
  tick : ∀ s : State, P s → P s.tick
  reaction : ∀ s u : State, P s → Reaction s u → P u

theorem StepInvariant.step {P : State → Prop} (h : StepInvariant P) {s t : State} (hs : P s)
    (hstep : Machine.step s = .next t) : P t := by
  rcases step_cases hstep with ⟨-, rfl⟩ | ⟨rest, ha⟩
  · exact h.tick s hs
  · have hr := h.setPending s rest hs
    cases ha with
    | unpowered => exact hr
    | started i => exact h.refreshFault _ (h.started _ i hr)
    | powerLost c => exact h.unpowered _ c hr
    | reacted _ hu => exact h.refreshFault _ (h.reaction _ _ hr hu)

end Sys2Proof.Machine
end

section
/-!
What a tick can do, what the reactions that are no memory operation leave of the arrays, and the first two invariants of the
steps: the canonical arrays (O56) and the FAULT pin (O57).
-/

namespace Sys2Proof.Machine

/-! ### A tick -/

@[simp] theorem State.tickClocks_powered (s : State) : s.tickClocks.powered = s.powered := rfl
@[simp] theorem State.tickClocks_membership (s : State) : s.tickClocks.membership = s.membership := rfl
@[simp] theorem State.tickClocks_monitors (s : State) : s.tickClocks.monitors = s.monitors := rfl
@[simp] theorem State.tickClocks_ring (s : State) : s.tickClocks.ring = s.ring := rfl
@[simp] theorem State.tickClocks_engine (s : State) : s.tickClocks.engine = s.engine := rfl
@[simp] theorem State.tickClocks_staging (s : State) : s.tickClocks.staging = s.staging := rfl
@[simp] theorem State.tickClocks_store (s : State) : s.tickClocks.store = s.store := rfl
@[simp] theorem State.tickClocks_arrays (s : State) : s.tickClocks.arrays = s.arrays := rfl
@[simp] theorem State.tickClocks_orders (s : State) : s.tickClocks.orders = s.orders := rfl
@[simp] theorem State.tickClocks_lock (s : State) : s.tickClocks.lock = s.lock := rfl
@[simp] theorem State.tickClocks_setup (s : State) : s.tickClocks.setup = s.setup := rfl
@[simp] theorem State.tickClocks_settings (s : State) : s.tickClocks.settings = s.settings := rfl
@[simp] theorem State.tickClocks_pending (s : State) : s.tickClocks.pending = s.pending := rfl
@[simp] theorem State.tickClocks_onLine (s : State) : s.tickClocks.onLine = s.onLine := rfl
@[simp] theorem State.tickClocks_line (s : State) : s.tickClocks.line = s.line.tick s.settings := rfl
@[simp] theorem State.tickClocks_sequencer (s : State) : s.tickClocks.sequencer = s.sequencer.tick s.settings := rfl
@[simp] theorem State.tickClocks_programmer (s : State) : s.tickClocks.programmer = s.programmer.tick := rfl
@[simp] theorem State.tickClocks_rest (s : State) : s.tickClocks.rest = s.rest.tick s.settings := rfl
@[simp] theorem State.tickClocks_pins (s : State) : s.tickClocks.pins = s.pins.tick := rfl

/-- The store with one more word read by the scan's stage. -/
def Store.countRead (t : Store) : Store := { t with scan := { t.scan with read := t.scan.read + 1 } }

/-- With the scan ended, or only its decision left, it reads nothing. -/
theorem State.tickScan_of_done {s : State} (h : s.store.scanned = true ∨ s.store.scan.stage = .decide) :
    s.tickScan = s := by
  unfold State.tickScan
  exact if_pos (by simpa using h)

/-- A word of a stage that has more to read. -/
theorem State.tickScan_of_more {s : State} (hs : s.store.scanned = false) (hg : s.store.scan.stage ≠ .decide)
    (hr : s.store.scan.read + 1 < scanWords s.arrays s.store.scan.stage) :
    s.tickScan = s.setStore s.store.countRead := by
  unfold State.tickScan
  rw [if_neg (by simp [hs, hg]), if_pos hr]
  rfl

/-- The last word of a stage. -/
theorem State.tickScan_of_last {s : State} (hs : s.store.scanned = false) (hg : s.store.scan.stage ≠ .decide)
    (hr : scanWords s.arrays s.store.scan.stage ≤ s.store.scan.read + 1) :
    s.tickScan = s.scanStage.refreshFault := by
  unfold State.tickScan
  rw [if_neg (by simp [hs, hg]), if_neg (by omega)]

/-- The scan's part of a tick: nothing, one more word counted, or a stage carried out. -/
theorem State.tickScan_cases (s : State) :
    s.tickScan = s ∨ s.tickScan = s.setStore s.store.countRead ∨ s.tickScan = s.scanStage.refreshFault := by
  by_cases hd : s.store.scanned = true ∨ s.store.scan.stage = .decide
  · exact .inl (State.tickScan_of_done hd)
  · obtain ⟨hs, hg⟩ := not_or.1 hd
    rw [Bool.not_eq_true] at hs
    rcases Nat.lt_or_ge (s.store.scan.read + 1) (scanWords s.arrays s.store.scan.stage) with hr | hr
    · exact .inr (.inl (State.tickScan_of_more hs hg hr))
    · exact .inr (.inr (State.tickScan_of_last hs hg hr))

/-- Whatever holds through the clocks, one word counted, a stage of the scan and the FAULT pin holds through a tick. -/
theorem State.tick_induction {P : State → Prop} {s : State} (hs : P s) (hclocks : P s.tickClocks)
    (hread : ∀ t : State, P t → P (t.setStore t.store.countRead))
    (hstage : ∀ t : State, P t → P t.scanStage.refreshFault) : P s.tick := by
  unfold State.tick
  split
  · rcases s.tickClocks.tickScan_cases with h | h | h <;> rw [h]
    · exact hclocks
    · exact hread _ hclocks
    · exact hstage _ hclocks
  · exact hs

/-! ### The reactions that leave the arrays -/

section
variable (s : State)

@[simp] theorem State.leaveStarting_arrays : s.leaveStarting.arrays = s.arrays := by
  unfold State.leaveStarting; split <;> rfl

@[simp] theorem State.setupValidation_arrays : s.setupValidation.arrays = s.arrays := by
  unfold State.setupValidation; split <;> simp

@[simp] theorem State.becomeAligned_arrays (slot : Fin 38) (q : Quarter) :
    (s.becomeAligned slot q).arrays = s.arrays := rfl

@[simp] theorem State.alignByMarks_arrays : s.alignByMarks.arrays = s.arrays := by
  unfold State.alignByMarks; split <;> rfl

@[simp] theorem State.markSearchEdge_arrays (n : Nat) : (s.markSearchEdge n).arrays = s.arrays := by
  unfold State.markSearchEdge; split_ifs <;> rfl

@[simp] theorem State.silenceTimerExpiry_arrays (b : Bool) (d : BitVec 6) :
    (s.silenceTimerExpiry b d).arrays = s.arrays := by
  unfold State.silenceTimerExpiry; split_ifs <;> rfl

@[simp] theorem State.edgeDuringBackoff_arrays (b : Bool) : (s.edgeDuringBackoff b).arrays = s.arrays := by
  unfold State.edgeDuringBackoff; split_ifs <;> rfl

@[simp] theorem State.openLine_arrays : s.openLine.arrays = s.arrays := by
  unfold State.openLine; split <;> rfl

@[simp] theorem State.withdraw_arrays (c : Cause) : (s.withdraw c).arrays = s.arrays := by
  simp [State.withdraw]

@[simp] theorem State.foreignPulse_arrays (b : Bool) : (s.foreignPulse b).arrays = s.arrays := by
  unfold State.foreignPulse
  split
  · simp only; split <;> simp
  · simp
  all_goals rfl

@[simp] theorem State.lineEdge_arrays (e : LineEdge) : (s.lineEdge e).arrays = s.arrays := by
  unfold State.lineEdge
  split
  · split
    · simp
    · split_ifs <;> simp
  · rfl

@[simp] theorem State.driverFault_arrays : s.driverFault.arrays = s.arrays := by
  unfold State.driverFault; split <;> simp

@[simp] theorem State.lineRise_arrays : s.lineRise.arrays = s.arrays := by
  unfold State.lineRise; split <;> rfl

@[simp] theorem State.markSlot_arrays (code : BitVec 16) : (s.markSlot code).arrays = s.arrays := by
  unfold State.markSlot; split <;> rfl

@[simp] theorem State.beginRepetition_arrays (d : Nat) : (s.beginRepetition d).arrays = s.arrays := by
  unfold State.beginRepetition; split <;> rfl

@[simp] theorem State.burstPoint_arrays (d : Nat) : (s.burstPoint d).arrays = s.arrays := by
  unfold State.burstPoint; split <;> simp

@[simp] theorem State.surveyConversionDone_arrays (x : Sample) : (s.surveyConversionDone x).arrays = s.arrays := by
  unfold State.surveyConversionDone
  split
  · split
    · simp only; split <;> rfl
    · rfl
  · rfl

@[simp] theorem State.burstConversionDone_arrays (x : Sample) : (s.burstConversionDone x).arrays = s.arrays := by
  unfold State.burstConversionDone; split <;> rfl

@[simp] theorem State.streamWordLoad_arrays : s.streamWordLoad.arrays = s.arrays := by
  unfold State.streamWordLoad; split <;> rfl

@[simp] theorem State.alertPulseEnd_arrays : s.alertPulseEnd.arrays = s.arrays := by
  unfold State.alertPulseEnd; split <;> rfl

@[simp] theorem State.senseTimerExpiry_arrays : s.senseTimerExpiry.arrays = s.arrays := by
  unfold State.senseTimerExpiry; split <;> rfl

@[simp] theorem State.senseConversionDone_arrays (x : Sample) : (s.senseConversionDone x).arrays = s.arrays := by
  unfold State.senseConversionDone
  split
  · simp only; split <;> rfl
  · rfl

@[simp] theorem State.forcedWakeExpiry_arrays : s.forcedWakeExpiry.arrays = s.arrays := by
  unfold State.forcedWakeExpiry; split <;> rfl

@[simp] theorem State.leaveDormant_arrays : s.leaveDormant.arrays = s.arrays := rfl

@[simp] theorem State.wakePatternEnd_arrays : s.wakePatternEnd.arrays = s.arrays := by
  unfold State.wakePatternEnd; split <;> rfl

@[simp] theorem State.countLongLow_arrays : s.countLongLow.arrays = s.arrays := by
  unfold State.countLongLow; split_ifs <;> rfl

@[simp] theorem State.longLow_arrays : s.longLow.arrays = s.arrays := by
  unfold State.longLow; split <;> simp

@[simp] theorem State.longLowTimingStart_arrays : s.longLowTimingStart.arrays = s.arrays := by
  unfold State.longLowTimingStart; split <;> rfl

@[simp] theorem State.patternWindowExpiry_arrays : s.patternWindowExpiry.arrays = s.arrays := by
  unfold State.patternWindowExpiry; split <;> rfl

end

/-! ### The arrays stay canonical (O56) -/

section
variable {s : State}

theorem startupScan_wf (h : s.arrays.wf = true) : s.startupScan.arrays.wf = true := by
  unfold State.startupScan
  split
  · exact h
  · simpa [State.scanEnd] using scanThrough_wf scanStages s h

/-- At a round end only the programmer's take touches the arrays. -/
theorem closeRound_wf (h : s.arrays.wf = true) (o : Offers) (r : Round) (out : OfferOutcome) :
    (s.closeRound o r out).arrays.wf = true := by
  have horders := (ordersRoundEnd_orderKeeps (s.beforeOrders o r out) (s.takenOrder r) (replyWon o out)).arrays
  have hrest := (restRoundEnd_restKeeps
    (((s.beforeOrders o r out).ordersRoundEnd (s.takenOrder r) (replyWon o out)).advanceCount r) r).arrays
  refine take_wf ?_
  rw [hrest, State.advanceCount_arrays, horders, State.beforeOrders_arrays]
  exact h

theorem wordProgramDone_wf (h : s.arrays.wf = true) (missed : Word) : (s.wordProgramDone missed).arrays.wf = true := by
  unfold State.wordProgramDone
  split
  · exact attemptEnded_wf h _ _
  all_goals exact h

theorem bankEraseDone_wf (h : s.arrays.wf = true) (u : WordMasks) (missed : Word) :
    (s.bankEraseDone u missed).arrays.wf = true := by
  unfold State.bankEraseDone
  split
  · exact bankEraseEnded_wf h _ _ _
  all_goals exact h

theorem setupProgramPulseDone_wf (h : s.arrays.wf = true) (missed : Word) :
    (s.setupProgramPulseDone missed).arrays.wf = true := by
  unfold State.setupProgramPulseDone
  split
  · exact programPulseEnded_wf h _ _ _ _ _
  all_goals exact h

theorem setupErasePulseDone_wf (h : s.arrays.wf = true) (u : WordMasks) :
    (s.setupErasePulseDone u).arrays.wf = true := by
  unfold State.setupErasePulseDone
  split
  · exact erasePulseEnded_wf h _ _ _
  all_goals exact h

theorem reaction_wf {u : State} (h : s.arrays.wf = true) (hu : Reaction s u) : u.arrays.wf = true := by
  cases hu with
  | startupScan => exact startupScan_wf h
  | started i => exact cutOff_wf h _ _
  | closeRound o r out _ => exact closeRound_wf h o r out
  | wordProgramDone missed => exact wordProgramDone_wf h missed
  | bankEraseDone u missed => exact bankEraseDone_wf h u missed
  | setupProgramPulseDone missed => exact setupProgramPulseDone_wf h missed
  | setupErasePulseDone u => exact setupErasePulseDone_wf h u
  | _ => simpa using h

end

theorem arraysWf_invariant : StepInvariant fun s => s.arrays.wf = true where
  setPending _ _ h := h
  refreshFault _ h := h
  started _ _ h := cutOff_wf h _ _
  unpowered _ _ h := cutOff_wf h _ _
  tick _ h := State.tick_induction (P := fun s => s.arrays.wf = true) h h (fun _ ht => ht) fun _ ht => scanStage_wf ht
  reaction _ _ h hu := reaction_wf h hu

/-- Settles O56: the memory operations keep the canonical form, and nothing else touches the arrays. -/
theorem everyStepKeepsTheArraysCanonical : Obligations.EveryStepKeepsTheArraysCanonical :=
  fun _ _ hs hstep => arraysWf_invariant.step hs hstep

/-! ### The FAULT pin (O57) -/

/-- The pin refreshed stands at its conditions (R43). -/
theorem refreshFault_faultPinFollows (s : State) : s.refreshFault.faultPinFollows = true := by
  have hcond : s.refreshFault.faultCondition = s.faultCondition := rfl
  simp [State.faultPinFollows, hcond]

/-- The clocks and the scan's count of words move neither the pin nor its conditions. -/
theorem tick_faultPinFollows {s : State} (h : s.faultPinFollows = true) : s.tick.faultPinFollows = true :=
  State.tick_induction (P := fun s => s.faultPinFollows = true) h h (fun _ ht => ht)
    fun t _ => refreshFault_faultPinFollows t.scanStage

/-- Settles O57: a command ends with the pin at its conditions, and a tick moves neither. -/
theorem everyStepKeepsTheFaultPin : Obligations.EveryStepKeepsTheFaultPin := by
  intro s t hs hstep
  rcases step_cases hstep with ⟨-, rfl⟩ | ⟨rest, ha⟩
  · exact tick_faultPinFollows hs
  · cases ha with
    | unpowered => exact hs
    | started i => exact refreshFault_faultPinFollows _
    | powerLost c => rfl
    | reacted => exact refreshFault_faultPinFollows _

end Sys2Proof.Machine
end

section
/-!
The standing of the station: alignment, offers, membership, engine, lock, settings and the counts no conversion moves. Which
reactions leave it as it is, and the invariant of the Readout Lock (O58).
-/

namespace Sys2Proof.Machine

/-! ### The reactions that leave the station's standing -/

/-- The station stands in `t` as in `s`. -/
structure StandingKept (s t : State) : Prop where
  align : t.line.align = s.line.align
  round : t.line.round = s.line.round
  membership : t.membership = s.membership
  engine : t.engine = s.engine
  validated : t.setup.validated = s.setup.validated
  scanned : t.store.scanned = s.store.scanned
  lock : t.lock = s.lock
  settings : t.settings = s.settings
  restCount : t.rest.count = s.rest.count
  pulseCount : t.orders.pulseCount = s.orders.pulseCount
  pulseIndex : t.orders.pulseIndex = s.orders.pulseIndex
  openTimer : t.orders.openTimer = s.orders.openTimer

theorem StandingKept.refl (s : State) : StandingKept s s := by constructor <;> rfl

theorem StandingKept.trans {s t u : State} (h : StandingKept s t) (g : StandingKept t u) : StandingKept s u :=
  ⟨g.align.trans h.align, g.round.trans h.round, g.membership.trans h.membership, g.engine.trans h.engine,
    g.validated.trans h.validated, g.scanned.trans h.scanned, g.lock.trans h.lock, g.settings.trans h.settings,
    g.restCount.trans h.restCount, g.pulseCount.trans h.pulseCount, g.pulseIndex.trans h.pulseIndex,
    g.openTimer.trans h.openTimer⟩

theorem StandingKept.onLine {s t : State} (h : StandingKept s t) : t.onLine = s.onLine := by
  simp only [State.onLine, h.membership]

theorem ScanTouches.standing {s t : State} (h : ScanTouches s t) : StandingKept s t :=
  ⟨congrArg Line.align h.line, congrArg Line.round h.line, h.membership, h.engine, h.validated, h.scanned, h.lock,
    h.settings, congrArg Rest.count h.rest, h.pulseCount, h.pulseIndex, h.openTimer⟩

theorem ProgrammerKeeps.scanTouches {s t : State} (h : ProgrammerKeeps s t) : ScanTouches s t :=
  ⟨h.powered, h.pins, h.line, h.membership, h.sequencer, h.monitors, h.ring, h.engine, h.lock, h.settings, h.setupFault,
    h.validated, h.rest, h.pending, h.scanned, h.openTimer, h.holding, h.pulseCount, h.pulseIndex⟩

theorem Line.tick_standing (st : Settings) (l : Line) :
    (l.tick st).align = l.align ∧ (l.tick st).round = l.round ∧ (l.tick st).search = l.search
      ∧ (l.tick st).burstPoints = l.burstPoints ∧ (l.tick st).count = l.count ∧ (l.tick st).detector = l.detector
      ∧ (l.tick st).heldLow = l.heldLow := by
  unfold Line.tick Line.tickPhase Line.tickTimers
  simp only
  split_ifs <;> exact ⟨rfl, rfl, rfl, rfl, rfl, rfl, rfl⟩

section
variable (s : State)

theorem setPending_standing (v : List Instr) : StandingKept s (s.setPending v) := by constructor <;> rfl

theorem refreshFault_standing : StandingKept s s.refreshFault := by constructor <;> rfl

theorem tickClocks_standing : StandingKept s s.tickClocks := by
  obtain ⟨halign, hround, -⟩ := s.line.tick_standing s.settings
  exact ⟨halign, hround, rfl, rfl, rfl, rfl, rfl, rfl, rfl, rfl, rfl, rfl⟩

theorem tick_standing : StandingKept s s.tick :=
  State.tick_induction (P := StandingKept s) (.refl s) (tickClocks_standing s)
    (fun _ h => h.trans (by constructor <;> rfl))
    fun t h => (h.trans (scanStage_touches t).standing).trans (refreshFault_standing _)

theorem lineRise_standing : StandingKept s s.lineRise := by
  unfold State.lineRise; split <;> constructor <;> rfl

theorem burstPoint_standing (d : Nat) : StandingKept s (s.burstPoint d) := by
  unfold State.burstPoint State.beginRepetition; split_ifs <;> constructor <;> rfl

theorem surveyConversionDone_standing (x : Sample) : StandingKept s (s.surveyConversionDone x) := by
  unfold State.surveyConversionDone
  split
  · split
    · simp only; split <;> constructor <;> rfl
    · exact .refl s
  · exact .refl s

theorem burstConversionDone_standing (x : Sample) : StandingKept s (s.burstConversionDone x) := by
  unfold State.burstConversionDone; split <;> constructor <;> rfl

theorem missedRound_standing :
    StandingKept s (s.setLine { s.line with burstPoints := 0, position := 0, phase := .q1, phaseTime := 0 }) := by
  constructor <;> rfl

theorem streamWordLoad_standing : StandingKept s s.streamWordLoad := by
  unfold State.streamWordLoad; split <;> constructor <;> rfl

theorem alertPulseEnd_standing : StandingKept s s.alertPulseEnd := by
  unfold State.alertPulseEnd; split <;> constructor <;> rfl

theorem wordProgramDone_keeps (missed : Word) : ProgrammerKeeps s (s.wordProgramDone missed) := by
  unfold State.wordProgramDone
  split
  · exact keeps_attemptEnded _ _ _
  all_goals exact .refl s

theorem bankEraseDone_keeps (u : WordMasks) (missed : Word) : ProgrammerKeeps s (s.bankEraseDone u missed) := by
  unfold State.bankEraseDone
  split
  · exact keeps_bankEraseEnded _ _ _ _
  all_goals exact .refl s

theorem setupProgramPulseDone_keeps (missed : Word) : ProgrammerKeeps s (s.setupProgramPulseDone missed) := by
  unfold State.setupProgramPulseDone
  split
  · exact keeps_programPulseEnded _ _ _ _ _ _
  all_goals exact .refl s

theorem setupErasePulseDone_keeps (u : WordMasks) : ProgrammerKeeps s (s.setupErasePulseDone u) := by
  unfold State.setupErasePulseDone
  split
  · exact keeps_erasePulseEnded _ _ _ _
  all_goals exact .refl s

theorem senseTimerExpiry_standing : StandingKept s s.senseTimerExpiry := by
  unfold State.senseTimerExpiry; split <;> constructor <;> rfl

theorem beginPattern_standing : StandingKept s s.beginPattern := by constructor <;> rfl

theorem senseConversionDone_standing (x : Sample) : StandingKept s (s.senseConversionDone x) := by
  unfold State.senseConversionDone
  split
  · simp only; split <;> constructor <;> rfl
  · exact .refl s

theorem forcedWakeExpiry_standing : StandingKept s s.forcedWakeExpiry := by
  unfold State.forcedWakeExpiry; split <;> constructor <;> rfl

theorem longLowTimingStart_standing : StandingKept s s.longLowTimingStart := by
  unfold State.longLowTimingStart; split <;> constructor <;> rfl

theorem patternWindowExpiry_standing : StandingKept s s.patternWindowExpiry := by
  unfold State.patternWindowExpiry; split <;> constructor <;> rfl

end

/-! ### The lock guarded (O58) -/

/-- The station has left STARTING only in order, and its lock is guarded (R24, R159, R163). -/
structure Guarded (s : State) : Prop where
  inOrder : s.membership.state = .starting ∨ s.membership.state = .withdrawn
    ∨ (s.setup.validated = true ∧ s.store.scanned = true)
  lock : s.lock = .locked ∨ (s.membership.state = .member ∧ s.settings.key.classOf ≠ .allZeros)

theorem guarded_iff (s : State) : Guarded s ↔ s.startedInOrder = true ∧ s.lockGuarded = true := by
  have h : s.startedInOrder = true ∧ s.lockGuarded = true ↔
      (s.membership.state = .starting ∨ s.membership.state = .withdrawn
        ∨ (s.setup.validated = true ∧ s.store.scanned = true))
      ∧ (s.lock = .locked ∨ (s.membership.state = .member ∧ s.settings.key.classOf ≠ .allZeros)) := by
    simp [State.startedInOrder, State.lockGuarded, or_assoc]
  rw [h]
  exact ⟨fun ⟨a, b⟩ => ⟨a, b⟩, fun ⟨a, b⟩ => ⟨a, b⟩⟩

section
variable {s t : State}

theorem StandingKept.guarded (h : StandingKept s t) (g : Guarded s) : Guarded t := by
  constructor
  · rw [h.membership, h.validated, h.scanned]; exact g.inOrder
  · rw [h.membership, h.lock, h.settings]; exact g.lock

/-- Out of MEMBER the lock is LOCKED. -/
theorem Guarded.locked (g : Guarded s) (h : s.membership.state ≠ .member) : s.lock = .locked :=
  g.lock.resolve_right fun hm => h hm.1

/-- A station that has left STARTING without a withdrawal has its setup validated and its store scanned. -/
theorem Guarded.ready (g : Guarded s) (h0 : s.membership.state ≠ .starting) (h1 : s.membership.state ≠ .withdrawn) :
    s.setup.validated = true ∧ s.store.scanned = true := (g.inOrder.resolve_left h0).resolve_left h1

theorem Guarded.of_locked (hl : t.lock = .locked) (hv : t.setup.validated = true) (hs : t.store.scanned = true) :
    Guarded t := ⟨.inr (.inr ⟨hv, hs⟩), .inl hl⟩

theorem leaveStarting_guarded (g : Guarded s) : Guarded s.leaveStarting := by
  unfold State.leaveStarting
  split
  next h =>
    obtain ⟨hm, hv, hs⟩ := h
    exact .of_locked (g.locked (by simp [hm])) hv hs
  next => exact g

/-- Until validation ends the station is STARTING or WITHDRAWN, so the key that comes into force meets a LOCKED lock. -/
theorem setupValidation_guarded (g : Guarded s) : Guarded s.setupValidation := by
  unfold State.setupValidation
  split
  · exact g
  next hv =>
    have hstate : s.membership.state = .starting ∨ s.membership.state = .withdrawn := by
      rcases g.inOrder with h | h | h
      · exact .inl h
      · exact .inr h
      · exact absurd h.1 hv
    have hlock : s.lock = .locked := g.locked (by rcases hstate with h | h <;> simp [h])
    exact leaveStarting_guarded ⟨hstate.imp id .inl, .inl hlock⟩

theorem startupScan_guarded (g : Guarded s) : Guarded s.startupScan := by
  unfold State.startupScan
  split
  · exact g
  · have gt : Guarded (State.scanThrough scanStages s) := (scanThrough_touches scanStages s).standing.guarded g
    refine leaveStarting_guarded ⟨?_, gt.lock⟩
    rcases gt.inOrder with h | h | ⟨hv, -⟩
    · exact .inl h
    · exact .inr (.inl h)
    · exact .inr (.inr ⟨hv, rfl⟩)

/-- A change of the line alone leaves the lock guarded. -/
theorem setLine_guarded (g : Guarded s) (l : Line) : Guarded (s.setLine l) := ⟨g.inOrder, g.lock⟩

theorem becomeAligned_guarded (g : Guarded s) (h : s.membership.state = .seeking) (slot : Fin 38) (q : Quarter) :
    Guarded (s.becomeAligned slot q) := by
  obtain ⟨hv, hs⟩ := g.ready (by simp [h]) (by simp [h])
  exact .of_locked (g.locked (by simp [h])) hv hs

theorem searching_seeking (h : s.searching = true) :
    s.membership.state = .seeking ∧ s.line.align = .seeking ∧ s.line.silence.isSome = true := by
  simpa [State.searching, and_assoc] using h

theorem alignByMarks_guarded (g : Guarded s) : Guarded s.alignByMarks := by
  unfold State.alignByMarks
  split
  next h => exact becomeAligned_guarded g (searching_seeking (Bool.and_eq_true_iff.1 h).1).1 _ _
  next => exact g

theorem markSearchEdge_guarded (g : Guarded s) (n : Nat) : Guarded (s.markSearchEdge n) := by
  unfold State.markSearchEdge
  split
  next h =>
    split
    · split
      · exact becomeAligned_guarded g (searching_seeking h).1 _ _
      · exact setLine_guarded g _
    · exact setLine_guarded g _
  next => exact g

theorem silenceTimerExpiry_guarded (g : Guarded s) (b : Bool) (d : BitVec 6) : Guarded (s.silenceTimerExpiry b d) := by
  unfold State.silenceTimerExpiry
  split_ifs
  · exact setLine_guarded g _
  · exact setLine_guarded g _
  · exact g

theorem edgeDuringBackoff_guarded (g : Guarded s) (b : Bool) : Guarded (s.edgeDuringBackoff b) := by
  unfold State.edgeDuringBackoff
  split_ifs
  · exact setLine_guarded g _
  · exact setLine_guarded g _
  · exact g

theorem openLine_guarded (g : Guarded s) : Guarded s.openLine := by
  unfold State.openLine
  split
  next h => exact becomeAligned_guarded g h.2 _ _
  next => exact g

theorem markSlot_guarded (g : Guarded s) (code : BitVec 16) : Guarded (s.markSlot code) := by
  unfold State.markSlot
  split
  · exact ⟨g.inOrder, g.lock⟩
  · exact g

theorem onLine_iff (s : State) :
    s.onLine = true ↔ s.membership.state = .joining ∨ s.membership.state = .member := by
  simp [State.onLine]

theorem Guarded.ready_onLine (g : Guarded s) (h : s.onLine = true) :
    s.setup.validated = true ∧ s.store.scanned = true := by
  rcases (onLine_iff s).1 h with h | h <;> exact g.ready (by simp [h]) (by simp [h])

/-- A departure locks the lock, if it was not LOCKED already (R163). -/
theorem Guarded.depart_locked (g : Guarded s) : s.depart.lock = .locked := by
  by_cases h : s.membership.state = .member
  · exact (State.depart_orders_member h).1
  · exact (State.depart_orders_joining h).1.trans (g.locked h)

/-- A departure, whatever becomes of the line, the membership and the rest after it. -/
theorem Guarded.of_depart (g : Guarded s) (h : s.onLine = true) (ht : t.lock = s.depart.lock)
    (hv : t.setup.validated = s.depart.setup.validated) (hs : t.store.scanned = s.depart.store.scanned) : Guarded t := by
  obtain ⟨hv', hs'⟩ := g.ready_onLine h
  exact .of_locked (ht.trans g.depart_locked) (by rw [hv]; simpa using hv') (by rw [hs]; simpa using hs')

theorem driverFault_guarded (g : Guarded s) : Guarded s.driverFault := by
  unfold State.driverFault
  split
  next h => exact g.of_depart h rfl rfl rfl
  next => exact g

theorem foreignPulse_guarded (g : Guarded s) (b : Bool) : Guarded (s.foreignPulse b) := by
  unfold State.foreignPulse
  split
  next h =>
    have hon : s.onLine = true := (onLine_iff s).2 (.inr h)
    simp only
    split <;> exact g.of_depart hon rfl rfl rfl
  next h => exact g.of_depart ((onLine_iff s).2 (.inl h)) rfl rfl rfl
  all_goals exact g

theorem lineEdge_guarded (g : Guarded s) (e : LineEdge) : Guarded (s.lineEdge e) := by
  unfold State.lineEdge
  split
  · split
    · exact foreignPulse_guarded g _
    · split_ifs
      · exact g
      · exact foreignPulse_guarded g _
      · exact setLine_guarded g _
      · exact g
  · exact g

theorem leaveDormant_guarded (g : Guarded s) (h : s.membership.state = .dormant) : Guarded s.leaveDormant := by
  obtain ⟨hv, hs⟩ := g.ready (by simp [h]) (by simp [h])
  exact .of_locked (g.locked (by simp [h])) hv hs

theorem wakePatternEnd_guarded (g : Guarded s) : Guarded s.wakePatternEnd := by
  unfold State.wakePatternEnd
  split
  next h => exact leaveDormant_guarded g (beq_iff_eq.1 (Bool.and_eq_true_iff.1 h).2)
  next => exact g

theorem resting_iff (s : State) : s.resting = true ↔ s.membership.state = .dormant ∧ s.rest.waking = false := by
  simp [State.resting]

theorem longLow_guarded (g : Guarded s) : Guarded s.longLow := by
  unfold State.longLow
  split
  next h =>
    have hd := ((resting_iff s).1 (Bool.and_eq_true_iff.1 h).1).1
    have gl : Guarded (s.setLine { s.line with detector := .reported }) := setLine_guarded g _
    unfold State.countLongLow
    split_ifs
    · exact leaveDormant_guarded gl hd
    · exact ⟨gl.inOrder, gl.lock⟩
    · exact ⟨gl.inOrder, gl.lock⟩
  next => exact g

/-! A round end: a member stays one before the Order Unit reacts, and the lock moves by an order, the open timer or the
entry into DORMANT. -/

theorem afterRound_member {m : Membership} (h : m.state = .member) (period : Nat) (o : Offers) (r : Round)
    (out : OfferOutcome) : (m.afterRound period o r out).state = .member := by
  unfold Membership.afterRound
  simp only [h]
  split
  · exact h
  · unfold Membership.countRoll; split <;> exact h

theorem State.beforeOrders_member (h : s.membership.state = .member) (o : Offers) (r : Round) (out : OfferOutcome) :
    (s.beforeOrders o r out).membership.state = .member := by
  rw [State.beforeOrders_membership]
  exact afterRound_member h _ _ _ _

theorem beforeOrders_guarded (g : Guarded s) (hon : s.onLine = true) (o : Offers) (r : Round) (out : OfferOutcome) :
    Guarded (s.beforeOrders o r out) := by
  obtain ⟨hv, hs⟩ := g.ready_onLine hon
  refine ⟨.inr (.inr ⟨by simpa using hv, by simpa using hs⟩), ?_⟩
  rw [State.beforeOrders_lock, State.beforeOrders_settings]
  exact g.lock.imp id fun ⟨hm, hk⟩ => ⟨State.beforeOrders_member hm o r out, hk⟩

theorem Lock.unlock_guarded (l : Lock) {k : Key} (part : Word) :
    (l.unlock k part).1 = .locked ∨ k.classOf ≠ .allZeros := by
  unfold Lock.unlock
  cases k.classOf with
  | allZeros => exact .inl rfl
  | allOnes | split => exact .inr nofun

/-- What handling an order can make of the lock: as it was, LOCKED, or moved by UNLOCK under a key that is not all zeros. -/
theorem handleOrder_lock (x : State) (code : OrderCode) (arg : Word) :
    (x.handleOrder code arg).lock = x.lock ∨ (x.handleOrder code arg).lock = .locked
      ∨ x.settings.key.classOf ≠ .allZeros := by
  unfold State.handleOrder
  split
  · exact .inl rfl
  cases code with
  | unlock => exact .inr (Lock.unlock_guarded x.lock arg)
  | relock => exact .inr (.inl rfl)
  | fetch =>
    left
    simp only [State.fetchOrder, State.fetchOldest, State.fetchNumber]
    split_ifs
    · exact (readStream_keeps x _).2.2.2.1
    · split
      · rfl
      · exact (readStream_keeps x _).2.2.2.1
    · rfl
    · split
      · rfl
      · exact (readStream_keeps x _).2.2.2.1
  | mark => left; simp only [State.markOrder]; split_ifs <;> rfl
  | load => exact .inl rfl
  | program => left; simp only [State.programOrder]; split_ifs <;> rfl
  | erase =>
    left
    simp only [State.eraseOrder, State.eraseBank, State.eraseSetupOrder]
    split_ifs <;> rfl
  | restart => exact .inl rfl

theorem Lock.orderTaken_eq (l : Lock) (code : OrderCode) : l.orderTaken code = l ∨ l.orderTaken code = .locked := by
  cases l <;> simp [Lock.orderTaken] <;> tauto

theorem acceptOrder_guarded (g : Guarded s) (code : OrderCode) (arg : Word) : Guarded (s.acceptOrder code arg) := by
  have k := acceptOrder_orderKeeps s code arg
  constructor
  · rw [k.membership, k.validated, k.scanned]; exact g.inOrder
  · rw [k.membership, k.settings, (acceptOrder_accepts s code arg).lock]
    rcases s.lock.orderTaken_eq code with h | h <;> rw [h]
    · exact g.lock
    · exact .inl rfl

theorem handleOrder_guarded (g : Guarded s) (hm : s.membership.state = .member) (code : OrderCode) (arg : Word) :
    Guarded (s.handleOrder code arg) := by
  have k := handleOrder_orderKeeps s code arg
  constructor
  · rw [k.membership, k.validated, k.scanned]; exact g.inOrder
  · rw [k.membership, k.settings]
    rcases handleOrder_lock s code arg with h | h | h
    · rw [h]; exact g.lock
    · exact .inl h
    · exact .inr ⟨hm, h⟩

theorem replyDelivered_lock (s : State) : s.replyDelivered.lock = s.lock := by
  unfold State.replyDelivered
  split
  · rfl
  · split
    · rfl
    · split
      · rfl
      · exact (readStream_keeps _ _).2.2.2.1

theorem openTimerRoundEnd_lock (s : State) :
    s.openTimerRoundEnd.lock = s.lock ∨ s.openTimerRoundEnd.lock = .locked := by
  unfold State.openTimerRoundEnd
  split
  · exact .inl rfl
  · split_ifs
    · exact .inr rfl
    · exact .inl rfl
    · exact .inl rfl

theorem ordersRoundEnd_none_lock (s : State) (won : Bool) :
    (s.ordersRoundEnd none won).lock = s.lock ∨ (s.ordersRoundEnd none won).lock = .locked := by
  unfold State.ordersRoundEnd
  simp only
  split
  · rw [replyDelivered_lock]; exact openTimerRoundEnd_lock s
  · exact openTimerRoundEnd_lock s

theorem ordersRoundEnd_guarded (g : Guarded s) (order : Option (OrderCode × Word)) (won : Bool)
    (hm : order ≠ none → s.membership.state = .member) : Guarded (s.ordersRoundEnd order won) := by
  cases order with
  | some x =>
    have hacc : (s.acceptOrder x.1 x.2).membership.state = .member := by
      rw [(acceptOrder_orderKeeps s x.1 x.2).membership]
      exact hm nofun
    exact handleOrder_guarded (acceptOrder_guarded g x.1 x.2) hacc x.1 x.2
  | none =>
    have k := (ordersRoundEnd_none_ordersOnly s won).orderKeeps
    constructor
    · rw [k.membership, k.validated, k.scanned]; exact g.inOrder
    · rw [k.membership, k.settings]
      rcases ordersRoundEnd_none_lock s won with h | h
      · rw [h]; exact g.lock
      · exact .inl h

theorem enterDormant_guarded (g : Guarded s) (h : s.onLine = true) (low : Bool) : Guarded (s.enterDormant low) := by
  rw [State.enterDormant_eq]
  have gr : Guarded (s.rested low) := g.of_depart h rfl rfl rfl
  split
  · exact (beginPattern_standing _).guarded gr
  · exact gr

theorem restRoundEnd_guarded (g : Guarded s) (r : Round) : Guarded (s.restRoundEnd r) := by
  unfold State.restRoundEnd
  split_ifs with h
  · exact ⟨g.inOrder, g.lock⟩
  · exact enterDormant_guarded g h _
  · exact ⟨g.inOrder, g.lock⟩
  · exact g

/-- An order is taken as MEMBER only (R139). -/
theorem member_of_takenOrder {r : Round} (h : s.takenOrder r ≠ none) : s.membership.state = .member := by
  unfold State.takenOrder at h
  split at h
  next hr => exact hr.2.2.2
  next => exact absurd rfl h

theorem closeRound_guarded (g : Guarded s) (hon : s.onLine = true) (o : Offers) (r : Round) (out : OfferOutcome) :
    Guarded (s.closeRound o r out) := by
  have gb := beforeOrders_guarded g hon o r out
  have go := ordersRoundEnd_guarded gb (s.takenOrder r) (replyWon o out) fun h =>
    State.beforeOrders_member (member_of_takenOrder h) o r out
  have ga : Guarded (((s.beforeOrders o r out).ordersRoundEnd (s.takenOrder r) (replyWon o out)).advanceCount r) :=
    setLine_guarded go _
  exact (keeps_take _).scanTouches.standing.guarded (restRoundEnd_guarded ga r)

theorem startMembership_state (straps : BitVec 5) :
    (startMembership straps).state = .starting ∨ (startMembership straps).state = .withdrawn := by
  unfold startMembership
  split
  · exact .inr rfl
  · exact .inl rfl

theorem started_guarded (s : State) (i : StartInputs) : Guarded (s.started i) :=
  ⟨(startMembership_state i.straps).imp id .inl, .inl rfl⟩

theorem reaction_guarded {u : State} (g : Guarded s) (hu : Reaction s u) : Guarded u := by
  cases hu with
  | nothing => exact g
  | setupValidation => exact setupValidation_guarded g
  | startupScan => exact startupScan_guarded g
  | alignByMarks => exact alignByMarks_guarded g
  | markSearchEdge n => exact markSearchEdge_guarded g n
  | silenceTimerExpiry b d => exact silenceTimerExpiry_guarded g b d
  | edgeDuringBackoff b => exact edgeDuringBackoff_guarded g b
  | openLine => exact openLine_guarded g
  | lineEdge e => exact lineEdge_guarded g e
  | driverFault => exact driverFault_guarded g
  | lineRise => exact (lineRise_standing s).guarded g
  | markSlot code => exact markSlot_guarded g code
  | burstPoint d => exact (burstPoint_standing s d).guarded g
  | surveyConversionDone x => exact (surveyConversionDone_standing s x).guarded g
  | burstConversionDone x => exact (burstConversionDone_standing s x).guarded g
  | missedRound _ => exact (missedRound_standing s).guarded g
  | started i => exact started_guarded s i
  | closeRound o r out h => exact closeRound_guarded g h.2.2.1 o r out
  | streamWordLoad => exact (streamWordLoad_standing s).guarded g
  | alertPulseEnd => exact (alertPulseEnd_standing s).guarded g
  | wordProgramDone missed => exact (wordProgramDone_keeps s missed).scanTouches.standing.guarded g
  | bankEraseDone u missed => exact (bankEraseDone_keeps s u missed).scanTouches.standing.guarded g
  | setupProgramPulseDone missed => exact (setupProgramPulseDone_keeps s missed).scanTouches.standing.guarded g
  | setupErasePulseDone u => exact (setupErasePulseDone_keeps s u).scanTouches.standing.guarded g
  | senseTimerExpiry => exact (senseTimerExpiry_standing s).guarded g
  | senseConversionDone x => exact (senseConversionDone_standing s x).guarded g
  | forcedWakeExpiry => exact (forcedWakeExpiry_standing s).guarded g
  | wakePatternEnd => exact wakePatternEnd_guarded g
  | longLow => exact longLow_guarded g
  | longLowTimingStart => exact (longLowTimingStart_standing s).guarded g
  | patternWindowExpiry => exact (patternWindowExpiry_standing s).guarded g

end

theorem guarded_invariant : StepInvariant Guarded where
  setPending s v g := (setPending_standing s v).guarded g
  refreshFault s g := (refreshFault_standing s).guarded g
  started s i _ := started_guarded s i
  unpowered _ _ _ := ⟨.inl rfl, .inl rfl⟩
  tick s g := (tick_standing s).guarded g
  reaction _ _ g hu := reaction_guarded g hu

/-- Settles O58, as the invariant of the guarded lock. -/
theorem everyStepKeepsTheLockGuarded : Obligations.EveryStepKeepsTheLockGuarded :=
  fun s t ho hl hstep => (guarded_iff t).1 (guarded_invariant.step ((guarded_iff s).2 ⟨ho, hl⟩) hstep)

end Sys2Proof.Machine
end

section
/-!
The Line Interface with the membership (R13, R16, R21, R91): ALIGNED exactly as JOINING or MEMBER, SILENT only as SEEKING, offers
only while ALIGNED, a capture only as MEMBER (O59).
-/

namespace Sys2Proof.Machine

/-- The line stands with the membership, and a capture with both. -/
structure LineStands (s : State) : Prop where
  aligned : s.line.align = .aligned ↔ s.onLine = true
  silent : s.line.align = .silent → s.membership.state = .seeking
  offers : s.line.round ≠ none → s.line.align = .aligned
  capture : s.engine.state = .capturing → s.membership.state = .member
  captureRound : ∀ o, s.line.round = some o → o.captureRound = true → s.engine.state = .capturing

theorem lineStands_iff (s : State) : LineStands s ↔ s.lineFollows = true ∧ s.captureFollows = true := by
  have hline : s.lineFollows = true ↔ (s.line.align = .aligned ↔ s.onLine = true)
      ∧ (s.line.align = .silent → s.membership.state = .seeking) ∧ (s.line.round ≠ none → s.line.align = .aligned) := by
    cases ha : s.line.align <;> cases hl : s.onLine <;> cases hr : s.line.round <;> simp [State.lineFollows, ha, hl, hr]
  have hcapture : s.captureFollows = true ↔ (s.engine.state = .capturing → s.membership.state = .member)
      ∧ ∀ o, s.line.round = some o → o.captureRound = true → s.engine.state = .capturing := by
    cases he : s.engine.state <;> cases hr : s.line.round <;> simp [State.captureFollows, he, hr]
  rw [hline, hcapture]
  exact ⟨fun h => ⟨⟨h.aligned, h.silent, h.offers⟩, h.capture, h.captureRound⟩,
    fun ⟨⟨ha, hs, ho⟩, hc, hr⟩ => ⟨ha, hs, ho, hc, hr⟩⟩

section
variable {s t : State}

/-- The four parts of the state that the condition speaks of. -/
theorem LineStands.of_eq (g : LineStands s) (ha : t.line.align = s.line.align) (hr : t.line.round = s.line.round)
    (hm : t.membership.state = s.membership.state) (he : t.engine.state = s.engine.state) : LineStands t := by
  have hon : t.onLine = s.onLine := by simp only [State.onLine, hm]
  constructor
  · rw [ha, hon]; exact g.aligned
  · rw [ha, hm]; exact g.silent
  · rw [hr, ha]; exact g.offers
  · rw [he, hm]; exact g.capture
  · rw [hr, he]; exact g.captureRound

theorem StandingKept.lineStands (h : StandingKept s t) (g : LineStands s) : LineStands t :=
  g.of_eq h.align h.round (congrArg Membership.state h.membership) (congrArg Engine.state h.engine)

theorem LineStands.idle (g : LineStands s) (h : s.membership.state ≠ .member) : s.engine.state = .idle := by
  cases he : s.engine.state with
  | idle => rfl
  | capturing => exact absurd (g.capture he) h

theorem LineStands.round_none (g : LineStands s) (h : s.line.align ≠ .aligned) : s.line.round = none :=
  not_not.1 fun hr => h (g.offers hr)

/-- A station off the line that searches it, or whose Line Interface is inactive. -/
theorem LineStands.of_offLine (ha : t.line.align = .seeking) (hr : t.line.round = none) (hl : t.onLine = false)
    (he : t.engine.state = .idle) : LineStands t where
  aligned := by simp [ha, hl]
  silent h := by simp [ha] at h
  offers h := absurd hr h
  capture h := by simp [he] at h
  captureRound o h := by simp [hr] at h

/-! ### Searching, aligning -/

theorem leaveStarting_lineStands (g : LineStands s) : LineStands s.leaveStarting := by
  unfold State.leaveStarting
  split
  next h => exact .of_offLine rfl rfl rfl (g.idle (by simp [h.1]))
  next => exact g

theorem setupValidation_lineStands (g : LineStands s) : LineStands s.setupValidation := by
  unfold State.setupValidation
  split
  · exact g
  · exact leaveStarting_lineStands (g.of_eq rfl rfl rfl rfl)

theorem startupScan_lineStands (g : LineStands s) : LineStands s.startupScan := by
  unfold State.startupScan
  split
  · exact g
  · have gt := (scanThrough_touches scanStages s).standing.lineStands g
    exact leaveStarting_lineStands (gt.of_eq rfl rfl rfl rfl)

theorem becomeAligned_lineStands (g : LineStands s) (h : s.membership.state = .seeking) (slot : Fin 38) (q : Quarter) :
    LineStands (s.becomeAligned slot q) where
  aligned := iff_of_true rfl rfl
  silent := nofun
  offers h := absurd rfl h
  capture hc := absurd hc (by simp [State.becomeAligned, g.idle (by simp [h])])
  captureRound := nofun

theorem alignByMarks_lineStands (g : LineStands s) : LineStands s.alignByMarks := by
  unfold State.alignByMarks
  split
  next h => exact becomeAligned_lineStands g (searching_seeking (Bool.and_eq_true_iff.1 h).1).1 _ _
  next => exact g

theorem markSearchEdge_lineStands (g : LineStands s) (n : Nat) : LineStands (s.markSearchEdge n) := by
  unfold State.markSearchEdge
  split
  next h =>
    split
    · split
      · exact becomeAligned_lineStands g (searching_seeking h).1 _ _
      · exact g.of_eq rfl rfl rfl rfl
    · exact g.of_eq rfl rfl rfl rfl
  next => exact g

theorem silenceTimerExpiry_lineStands (g : LineStands s) (b : Bool) (d : BitVec 6) :
    LineStands (s.silenceTimerExpiry b d) := by
  unfold State.silenceTimerExpiry
  split
  next h =>
    obtain ⟨hm, ha, -⟩ := searching_seeking h
    have hr : s.line.round = none := g.round_none (by simp [ha])
    split
    · exact
        { aligned := by simp [State.onLine, hm]
          silent := fun _ => hm
          offers := fun h => absurd hr h
          capture := g.capture
          captureRound := g.captureRound }
    · exact g.of_eq rfl rfl rfl rfl
  next => exact g

theorem edgeDuringBackoff_lineStands (g : LineStands s) (b : Bool) : LineStands (s.edgeDuringBackoff b) := by
  unfold State.edgeDuringBackoff
  split
  next h =>
    have hm := g.silent h
    have hoff : s.onLine = false := by simp [State.onLine, hm]
    have he : s.engine.state = .idle := g.idle (by simp [hm])
    split
    · exact .of_offLine rfl rfl hoff he
    · exact .of_offLine rfl rfl hoff he
  next => exact g

theorem openLine_lineStands (g : LineStands s) : LineStands s.openLine := by
  unfold State.openLine
  split
  next h => exact becomeAligned_lineStands g h.2 _ _
  next => exact g

theorem lineRise_lineStands (g : LineStands s) : LineStands s.lineRise := (lineRise_standing s).lineStands g

theorem markSlot_lineStands (g : LineStands s) (code : BitVec 16) : LineStands (s.markSlot code) := by
  unfold State.markSlot
  split
  next h =>
    have ha : s.line.align = .aligned := by
      simp only [Bool.and_eq_true, beq_iff_eq] at h
      exact h.1.1
    exact
      { aligned := g.aligned
        silent := g.silent
        offers := fun _ => ha
        capture := g.capture
        captureRound := by
          rintro o ho hc
          cases ho
          exact beq_iff_eq.1 hc }
  next => exact g

/-! ### Leaving the line -/

/-- A station off the line after a departure, its Line Interface searching or inactive. -/
theorem LineStands.of_depart (ha : t.line.align = .seeking) (hr : t.line.round = none) (hl : t.onLine = false)
    (he : t.engine = s.depart.engine) : LineStands t :=
  .of_offLine ha hr hl (by rw [he]; exact s.depart_engine.1)

theorem withdraw_lineStands (s : State) (c : Cause) : LineStands (s.withdraw c) :=
  .of_depart (s := s) rfl rfl rfl rfl

theorem driverFault_lineStands (g : LineStands s) : LineStands s.driverFault := by
  unfold State.driverFault
  split
  · exact withdraw_lineStands s _
  · exact g

theorem foreignPulse_lineStands (g : LineStands s) (b : Bool) : LineStands (s.foreignPulse b) := by
  unfold State.foreignPulse
  split
  · simp only
    split
    · exact (withdraw_lineStands s .sync).of_eq rfl rfl rfl rfl
    · exact .of_depart (s := s) rfl rfl rfl rfl
  · exact .of_depart (s := s) rfl rfl rfl rfl
  all_goals exact g

theorem lineEdge_lineStands (g : LineStands s) (e : LineEdge) : LineStands (s.lineEdge e) := by
  unfold State.lineEdge
  split
  · split
    · exact foreignPulse_lineStands g _
    · split_ifs
      · exact g
      · exact foreignPulse_lineStands g _
      · exact g.of_eq rfl rfl rfl rfl
      · exact g
  · exact g

theorem leaveDormant_lineStands (g : LineStands s) (h : s.membership.state = .dormant) : LineStands s.leaveDormant :=
  .of_offLine rfl rfl rfl (g.idle (by simp [h]))

theorem wakePatternEnd_lineStands (g : LineStands s) : LineStands s.wakePatternEnd := by
  unfold State.wakePatternEnd
  split
  next h => exact leaveDormant_lineStands g (beq_iff_eq.1 (Bool.and_eq_true_iff.1 h).2)
  next => exact g

theorem longLow_lineStands (g : LineStands s) : LineStands s.longLow := by
  unfold State.longLow
  split
  next h =>
    have hd := ((resting_iff s).1 (Bool.and_eq_true_iff.1 h).1).1
    have gl : LineStands (s.setLine { s.line with detector := .reported }) := g.of_eq rfl rfl rfl rfl
    unfold State.countLongLow
    split_ifs
    · exact leaveDormant_lineStands gl hd
    · exact gl.of_eq rfl rfl rfl rfl
    · exact gl.of_eq rfl rfl rfl rfl
  next => exact g

/-! ### A round end -/

/-- A capture begins at a round end as MEMBER only (R82, R83). -/
theorem engineRoundEnd_capturing {o : Offers} {r : Round} {m : Bool} {n : RoundCount}
    (h : (s.engineRoundEnd o r m n).engine.state = .capturing) : s.engine.state = .capturing ∨ m = true := by
  cases m with
  | true => exact .inr rfl
  | false =>
    left
    revert h
    unfold State.engineRoundEnd
    simp only [Bool.and_false, Bool.false_eq_true, if_false]
    split_ifs <;> simp [State.endCapture, countCaptureRound]

/-- Before the engine reacts, its state is as before the round end, or IDLE after a withdrawal (R73). -/
theorem beforeEngine_capturing {o : Offers} {r : Round} {out : OfferOutcome}
    (h : (s.beforeEngine o r out).engine.state = .capturing) : s.engine.state = .capturing := by
  by_cases hd : s.membership.state = .joining ∧ probeResult r out = .duplicate
  · obtain ⟨hj, hd⟩ := hd
    have hm : (s.completePass.lineRoundEnd.ringRoundEnd r).membership = s.membership :=
      (State.ringRoundEnd_side _ r).1.trans s.completePass_side.1
    have he : (s.completePass.lineRoundEnd.ringRoundEnd r).engine = s.engine :=
      (State.ringRoundEnd_side _ r).2.2.2.1.trans s.completePass_side.2.2.2.1
    revert h
    unfold State.beforeEngine State.membershipRoundEnd
    rw [hm, hj, hd]
    split
    · intro h
      have hidle := (s.completePass.lineRoundEnd.ringRoundEnd r).depart_engine.1
      exact absurd (hidle.symm.trans h) nofun
    · split <;> exact fun h => (congrArg Engine.state he).symm.trans h
  · rw [(s.beforeEngine_side o r out fun hj hdup => hd ⟨hj, hdup⟩).1] at h
    exact h

/-- Past a round end, JOINING stays, becomes MEMBER, or is WITHDRAWN; MEMBER stays (R28, R29). -/
theorem afterRound_state (m : Membership) (h : m.state = .joining ∨ m.state = .member) (period : Nat) (o : Offers)
    (r : Round) (out : OfferOutcome) :
    (m.afterRound period o r out).state = .joining ∨ (m.afterRound period o r out).state = .member
      ∨ (m.afterRound period o r out).state = .withdrawn := by
  rcases h with h | h
  · unfold Membership.afterRound
    split
    · split
      · exact .inr (.inr rfl)
      · exact .inr (.inl rfl)
      · split <;> exact .inl h
    · split
      · exact .inl h
      · unfold Membership.countRoll; split <;> exact .inl h
  · exact .inr (.inl (afterRound_member h period o r out))

theorem beforeOrders_lineStands (g : LineStands s) {o : Offers} {r : Round} {out : OfferOutcome}
    (h : s.EndsRound o r out) : LineStands (s.beforeOrders o r out) := by
  obtain ⟨-, ha, hl, -, -⟩ := h
  obtain ⟨-, hround, hstay, hleave⟩ := s.beforeOrders_line o r out
  have hstate := afterRound_state s.membership ((onLine_iff s).1 hl) s.settings.rollPeriod o r out
  rw [← State.beforeOrders_membership] at hstate
  have hcapture : (s.beforeOrders o r out).engine.state = .capturing →
      (s.beforeOrders o r out).membership.state = .member := by
    intro hc
    rcases engineRoundEnd_capturing (s := s.beforeEngine o r out) hc with hc | hm
    · exact State.beforeOrders_member (g.capture (beforeEngine_capturing hc)) o r out
    · rw [(s.beforeOrders_engineSide o r out).1]
      exact beq_iff_eq.1 hm
  by_cases hw : (s.beforeOrders o r out).membership.state = .withdrawn
  · refine .of_offLine (hleave hw hl) hround (by simp [State.onLine, hw]) ?_
    cases he : (s.beforeOrders o r out).engine.state with
    | idle => rfl
    | capturing => exact absurd ((hcapture he).symm.trans hw) nofun
  · have halign : (s.beforeOrders o r out).line.align = .aligned := by rw [hstay hw]; exact ha
    have hon : (s.beforeOrders o r out).onLine = true := by
      rw [onLine_iff, ← or_assoc] at *
      exact hstate.resolve_right hw
    exact
      { aligned := iff_of_true halign hon
        silent := fun hs => by simp [halign] at hs
        offers := fun hr => absurd hround hr
        capture := hcapture
        captureRound := fun o ho => by rw [hround] at ho; cases ho }

theorem restRoundEnd_lineStands (g : LineStands s) (r : Round) : LineStands (s.restRoundEnd r) := by
  unfold State.restRoundEnd
  split_ifs
  · exact g.of_eq rfl rfl rfl rfl
  · rw [State.enterDormant_eq]
    have gr : LineStands (s.rested (!r.body.getMsbD 31)) := .of_depart (s := s) rfl rfl rfl rfl
    split
    · exact gr.of_eq rfl rfl rfl rfl
    · exact gr
  · exact g.of_eq rfl rfl rfl rfl
  · exact g

theorem closeRound_lineStands (g : LineStands s) {o : Offers} {r : Round} {out : OfferOutcome}
    (h : s.EndsRound o r out) : LineStands (s.closeRound o r out) := by
  have gb := beforeOrders_lineStands g h
  have k := ordersRoundEnd_orderKeeps (s.beforeOrders o r out) (s.takenOrder r) (replyWon o out)
  have go : LineStands ((s.beforeOrders o r out).ordersRoundEnd (s.takenOrder r) (replyWon o out)) :=
    gb.of_eq (congrArg Line.align k.line) (congrArg Line.round k.line) (congrArg Membership.state k.membership)
      (congrArg Engine.state k.engine)
  have ga : LineStands (((s.beforeOrders o r out).ordersRoundEnd (s.takenOrder r) (replyWon o out)).advanceCount r) :=
    go.of_eq rfl rfl rfl rfl
  exact (keeps_take _).scanTouches.standing.lineStands (restRoundEnd_lineStands ga r)

theorem started_lineStands (s : State) (i : StartInputs) : LineStands (s.started i) := by
  refine .of_offLine rfl rfl ?_ rfl
  have hstate : (s.started i).membership.state = .starting ∨ (s.started i).membership.state = .withdrawn :=
    startMembership_state i.straps
  rcases hstate with h | h <;> simp [State.onLine, h]

theorem reaction_lineStands {u : State} (g : LineStands s) (hu : Reaction s u) : LineStands u := by
  cases hu with
  | nothing => exact g
  | setupValidation => exact setupValidation_lineStands g
  | startupScan => exact startupScan_lineStands g
  | alignByMarks => exact alignByMarks_lineStands g
  | markSearchEdge n => exact markSearchEdge_lineStands g n
  | silenceTimerExpiry b d => exact silenceTimerExpiry_lineStands g b d
  | edgeDuringBackoff b => exact edgeDuringBackoff_lineStands g b
  | openLine => exact openLine_lineStands g
  | lineEdge e => exact lineEdge_lineStands g e
  | driverFault => exact driverFault_lineStands g
  | lineRise => exact lineRise_lineStands g
  | markSlot code => exact markSlot_lineStands g code
  | burstPoint d => exact (burstPoint_standing s d).lineStands g
  | surveyConversionDone x => exact (surveyConversionDone_standing s x).lineStands g
  | burstConversionDone x => exact (burstConversionDone_standing s x).lineStands g
  | missedRound _ => exact (missedRound_standing s).lineStands g
  | started i => exact started_lineStands s i
  | closeRound o r out h => exact closeRound_lineStands g h
  | streamWordLoad => exact (streamWordLoad_standing s).lineStands g
  | alertPulseEnd => exact (alertPulseEnd_standing s).lineStands g
  | wordProgramDone missed => exact (wordProgramDone_keeps s missed).scanTouches.standing.lineStands g
  | bankEraseDone u missed => exact (bankEraseDone_keeps s u missed).scanTouches.standing.lineStands g
  | setupProgramPulseDone missed => exact (setupProgramPulseDone_keeps s missed).scanTouches.standing.lineStands g
  | setupErasePulseDone u => exact (setupErasePulseDone_keeps s u).scanTouches.standing.lineStands g
  | senseTimerExpiry => exact (senseTimerExpiry_standing s).lineStands g
  | senseConversionDone x => exact (senseConversionDone_standing s x).lineStands g
  | forcedWakeExpiry => exact (forcedWakeExpiry_standing s).lineStands g
  | wakePatternEnd => exact wakePatternEnd_lineStands g
  | longLow => exact longLow_lineStands g
  | longLowTimingStart => exact (longLowTimingStart_standing s).lineStands g
  | patternWindowExpiry => exact (patternWindowExpiry_standing s).lineStands g

end

theorem lineStands_invariant : StepInvariant LineStands where
  setPending s v g := (setPending_standing s v).lineStands g
  refreshFault s g := (refreshFault_standing s).lineStands g
  started s i _ := started_lineStands s i
  unpowered _ _ _ := .of_offLine rfl rfl rfl rfl
  tick s g := (tick_standing s).lineStands g
  reaction _ _ g hu := reaction_lineStands g hu

/-- Settles O59, as the invariant of the line's standing. -/
theorem everyStepKeepsTheLineWithTheMembership : Obligations.EveryStepKeepsTheLineWithTheMembership :=
  fun s t hl hc hstep => (lineStands_iff t).1 (lineStands_invariant.step ((lineStands_iff s).2 ⟨hl, hc⟩) hstep)

end Sys2Proof.Machine
end

section
/-!
The counters within their limits (O60): what each block's counters keep to, one lemma a reaction, and the capture's counts
through a round end.
-/

namespace Sys2Proof.Machine

/-! ### The limits, block by block -/

theorem vector_all_iff {α : Type} {n : Nat} (v : Vector α n) (p : α → Bool) :
    v.toList.all p = true ↔ ∀ i : Fin n, p v[i] = true := by
  rw [List.all_eq_true]
  constructor
  · intro h i
    exact h _ (by simp)
  · intro h x hx
    obtain ⟨i, hi, rfl⟩ := List.getElem_of_mem hx
    simpa using h ⟨i, by simpa using hi⟩

/-- The counters of the Incident Engine (R84, R86, R88, R89). -/
structure EngineFits (e : Engine) : Prop where
  missed : e.missed ≤ 15
  merges : e.merges.length ≤ 4
  remaining : e.state = .capturing → 1 ≤ e.remaining
  rounds : e.state = .capturing → e.captured + e.remaining ≤ 32

/-- The counters of the Membership Controller (R31, R37, R40). -/
structure MembershipFits (period : Nat) (m : Membership) : Prop where
  losses : m.syncLosses ≤ 3
  withdrawn : m.state = .withdrawn ∨ m.syncLosses < 3
  misses : ∀ k : Fin 31, m.roster[k].misses ≤ 2
  roll : m.rollTimer ≤ period

/-- The counters of the Line Interface (R17, R51). -/
structure LineFits (density : Nat) (l : Line) : Prop where
  singles : l.search.singles.getD 0 ≤ 36
  points : l.burstPoints ≤ density

/-- The counters of the Order Unit (R156, R170, R172). -/
structure OrdersFits (timeout : Option Nat) (o : Orders) : Prop where
  pulses : o.pulseCountFits = true
  timer : ∀ t, timeout = some t → o.openTimer ≤ t

/-- The trip counts (R58). -/
def MonitorsFit (trip : Nat) (ms : Monitors) : Prop := ∀ i : Fin 8, ms.inputs[i].count ≤ trip

/-- Every counter of the station is within its limit. -/
structure Fits (s : State) : Prop where
  engine : EngineFits s.engine
  membership : MembershipFits s.settings.rollPeriod s.membership
  restCount : s.rest.count ≤ 32
  longLows : s.rest.longLows ≤ 2
  line : LineFits s.settings.density s.line
  orders : OrdersFits s.settings.openTimeout s.orders
  monitors : MonitorsFit s.settings.trip s.monitors

/-- Nothing that a setting limits has counted, and nothing converts. -/
structure CountsNothing (s : State) : Prop where
  roll : s.membership.rollTimer = 0
  monitors : MonitorsFit 0 s.monitors
  points : s.line.burstPoints = 0
  timer : s.orders.openTimer = 0
  converter : s.sequencer.converter = .idle

/-- Until validation has ended nothing has counted (R165). -/
def Early (s : State) : Prop := s.setup.validated = true ∨ CountsNothing s

theorem engineFits_iff (e : Engine) : EngineFits e ↔
    e.countsFit = true ∧ e.missed ≤ Config.maxMissed ∧ e.merges.length ≤ Config.maxMerges := by
  have hcounts : e.countsFit = true ↔ (e.state = .capturing → 1 ≤ e.remaining)
      ∧ (e.state = .capturing → e.captured + e.remaining ≤ 32) := by
    cases he : e.state with
    | idle => simp [Engine.countsFit, he]
    | capturing =>
      simp only [Engine.countsFit, he, Bool.or_eq_true, Bool.and_eq_true, decide_eq_true_eq, true_implies]
      exact or_iff_right nofun
  rw [hcounts]
  exact ⟨fun h => ⟨⟨h.remaining, h.rounds⟩, h.missed, h.merges⟩, fun ⟨⟨hr, hc⟩, hm, hl⟩ => ⟨hm, hl, hr, hc⟩⟩

theorem countsNothing_iff (s : State) : s.countsNothing = true ↔ CountsNothing s := by
  have h : s.countsNothing = true ↔ s.membership.rollTimer = 0 ∧ MonitorsFit 0 s.monitors ∧ s.line.burstPoints = 0
      ∧ s.orders.openTimer = 0 ∧ s.sequencer.converter = .idle := by
    simp only [State.countsNothing, Bool.and_eq_true, beq_iff_eq, vector_all_iff, and_assoc, MonitorsFit,
      Nat.le_zero]
  rw [h]
  exact ⟨fun ⟨a, b, c, d, e⟩ => ⟨a, b, c, d, e⟩, fun ⟨a, b, c, d, e⟩ => ⟨a, b, c, d, e⟩⟩

theorem fixedCountersFit_iff (s : State) : s.fixedCountersFit = true ↔
    s.engine.missed ≤ 15 ∧ s.engine.merges.length ≤ 4 ∧ s.membership.syncLosses ≤ 3
      ∧ (s.membership.state = .withdrawn ∨ s.membership.syncLosses < 3) ∧ s.rest.count ≤ 32 ∧ s.rest.longLows ≤ 2
      ∧ (∀ k : Fin 31, s.membership.roster[k].misses ≤ 2) ∧ s.line.search.singles.getD 0 ≤ 36
      ∧ s.orders.pulseCountFits = true := by
  simp only [State.fixedCountersFit, Bool.and_eq_true, Bool.or_eq_true, decide_eq_true_eq, beq_iff_eq, vector_all_iff,
    and_assoc]
  exact Iff.rfl

theorem setCountersFit_iff (s : State) : s.setCountersFit = true ↔
    s.membership.rollTimer ≤ s.settings.rollPeriod ∧ MonitorsFit s.settings.trip s.monitors
      ∧ s.line.burstPoints ≤ s.settings.density ∧ ∀ t, s.settings.openTimeout = some t → s.orders.openTimer ≤ t := by
  cases h : s.settings.openTimeout <;>
    simp only [State.setCountersFit, h, Bool.and_eq_true, decide_eq_true_eq, vector_all_iff, and_assoc, MonitorsFit,
      Option.some.injEq, forall_eq', reduceCtorEq, false_implies, implies_true]

theorem fits_iff (s : State) : Fits s ∧ Early s ↔ s.engine.countsFit = true ∧ s.countersFit = true := by
  have hc : s.countersFit = true ↔ s.fixedCountersFit = true ∧ s.setCountersFit = true ∧ Early s := by
    simp only [State.countersFit, Bool.and_eq_true, Bool.or_eq_true, countsNothing_iff, and_assoc, Early]
  rw [hc, fixedCountersFit_iff, setCountersFit_iff]
  constructor
  · rintro ⟨h, he⟩
    exact ⟨((engineFits_iff _).1 h.engine).1, ⟨h.engine.missed, h.engine.merges, h.membership.losses,
      h.membership.withdrawn, h.restCount, h.longLows, h.membership.misses, h.line.singles, h.orders.pulses⟩,
      ⟨h.membership.roll, h.monitors, h.line.points, h.orders.timer⟩, he⟩
  · rintro ⟨hcounts, ⟨hmissed, hmerges, hlosses, hwithdrawn, hrest, hlows, hmisses, hsingles, hpulses⟩,
      ⟨hroll, hmonitors, hpoints, htimer⟩, he⟩
    exact ⟨⟨(engineFits_iff _).2 ⟨hcounts, hmissed, hmerges⟩, ⟨hlosses, hwithdrawn, hmisses, hroll⟩, hrest, hlows,
      ⟨hsingles, hpoints⟩, ⟨hpulses, htimer⟩, hmonitors⟩, he⟩

/-- The station as the counters' invariant needs it: started in order, its line standing, its counters within their limits. -/
structure Counted (s : State) : Prop where
  inOrder : s.membership.state = .starting ∨ s.membership.state = .withdrawn
    ∨ (s.setup.validated = true ∧ s.store.scanned = true)
  stands : LineStands s
  fits : Fits s
  early : Early s

section
variable {s t : State}

theorem Counted.validated (g : Counted s) (h0 : s.membership.state ≠ .starting)
    (h1 : s.membership.state ≠ .withdrawn) : s.setup.validated = true :=
  ((g.inOrder.resolve_left h0).resolve_left h1).1

theorem Counted.validated_onLine (g : Counted s) (h : s.onLine = true) : s.setup.validated = true := by
  rcases (onLine_iff s).1 h with h | h <;> exact g.validated (by simp [h]) (by simp [h])

theorem Counted.validated_aligned (g : Counted s) (h : s.line.align = .aligned) : s.setup.validated = true :=
  g.validated_onLine (g.stands.aligned.1 h)

theorem Counted.validated_seeking (g : Counted s) (h : s.membership.state = .seeking) : s.setup.validated = true :=
  g.validated (by simp [h]) (by simp [h])

theorem Counted.validated_dormant (g : Counted s) (h : s.membership.state = .dormant) : s.setup.validated = true :=
  g.validated (by simp [h]) (by simp [h])

theorem Counted.validated_converting (g : Counted s) (h : s.sequencer.converter ≠ .idle) :
    s.setup.validated = true := g.early.resolve_right fun hn => h hn.converter

/-! ### Parts that stay -/

theorem ScanTouches.fits (k : ScanTouches s t) (g : Fits s) : Fits t where
  engine := by rw [k.engine]; exact g.engine
  membership := by rw [k.membership, k.settings]; exact g.membership
  restCount := by rw [k.rest]; exact g.restCount
  longLows := by rw [k.rest]; exact g.longLows
  line := by rw [k.line, k.settings]; exact g.line
  orders := by
    rw [k.settings]
    exact ⟨by simpa only [Orders.pulseCountFits, k.pulseCount, k.pulseIndex] using g.orders.pulses,
      by rw [k.openTimer]; exact g.orders.timer⟩
  monitors := by rw [k.monitors, k.settings]; exact g.monitors

theorem ScanTouches.early (k : ScanTouches s t) (g : Early s) : Early t := by
  rcases g with h | h
  · exact .inl (k.validated.trans h)
  · exact .inr ⟨by rw [k.membership]; exact h.roll, by rw [k.monitors]; exact h.monitors,
      by rw [k.line]; exact h.points, k.openTimer.trans h.timer, by rw [k.sequencer]; exact h.converter⟩

theorem Fits.setLine (g : Fits s) {l : Line} (h : LineFits s.settings.density l) : Fits (s.setLine l) :=
  ⟨g.engine, g.membership, g.restCount, g.longLows, h, g.orders, g.monitors⟩

theorem Early.setLine (g : Early s) {l : Line} (h : l.burstPoints = 0 ∨ l.burstPoints = s.line.burstPoints) :
    Early (s.setLine l) :=
  g.imp id fun n => ⟨n.roll, n.monitors, h.elim id fun h => h.trans n.points, n.timer, n.converter⟩

theorem Fits.setMonitors (g : Fits s) {ms : Monitors} (h : MonitorsFit s.settings.trip ms) : Fits (s.setMonitors ms) :=
  ⟨g.engine, g.membership, g.restCount, g.longLows, g.line, g.orders, h⟩

theorem Fits.setMembership (g : Fits s) {m : Membership} (h : MembershipFits s.settings.rollPeriod m) :
    Fits (s.setMembership m) :=
  ⟨g.engine, h, g.restCount, g.longLows, g.line, g.orders, g.monitors⟩

theorem Fits.setSequencer (g : Fits s) (q : Sequencer) : Fits (s.setSequencer q) :=
  ⟨g.engine, g.membership, g.restCount, g.longLows, g.line, g.orders, g.monitors⟩

theorem Fits.setStaging (g : Fits s) (q : Staging) : Fits (s.setStaging q) :=
  ⟨g.engine, g.membership, g.restCount, g.longLows, g.line, g.orders, g.monitors⟩

theorem Fits.setPins (g : Fits s) (p : Pins) : Fits (s.setPins p) :=
  ⟨g.engine, g.membership, g.restCount, g.longLows, g.line, g.orders, g.monitors⟩

theorem Fits.setEngine (g : Fits s) {e : Engine} (h : EngineFits e) : Fits (s.setEngine e) :=
  ⟨h, g.membership, g.restCount, g.longLows, g.line, g.orders, g.monitors⟩

theorem Fits.setRest (g : Fits s) {r : Rest} (hc : r.count ≤ 32) (hl : r.longLows ≤ 2) : Fits (s.setRest r) :=
  ⟨g.engine, g.membership, hc, hl, g.line, g.orders, g.monitors⟩

theorem Fits.setOrders (g : Fits s) {o : Orders} (h : OrdersFits s.settings.openTimeout o) : Fits (s.setOrders o) :=
  ⟨g.engine, g.membership, g.restCount, g.longLows, g.line, h, g.monitors⟩

/-- A search with no mark seen and no burst point taken. -/
theorem LineFits.of_none {density : Nat} {l : Line} (hs : l.search.singles = none) (hp : l.burstPoints = 0) :
    LineFits density l := ⟨by simp [hs], by omega⟩

/-- A change of the line that leaves the search and the burst points. -/
theorem LineFits.of_eq {density : Nat} {l m : Line} (h : LineFits density l) (hs : m.search = l.search)
    (hp : m.burstPoints = l.burstPoints) : LineFits density m := ⟨by rw [hs]; exact h.singles, by rw [hp]; exact h.points⟩

theorem clearTripCounts_fit (trip : Nat) (ms : Monitors) : MonitorsFit trip (clearTripCounts ms) := fun i => by
  rw [(clearTripCounts_spec ms).2 i]
  exact Nat.zero_le trip

theorem clearTrips_fit {trip : Nat} {ms : Monitors} (h : MonitorsFit trip ms) : MonitorsFit trip (clearTrips ms) :=
  fun i => by
    rw [(clearTrips_spec ms).2 i]
    exact h i

theorem judge_count_le {trip : Nat} {m : Monitor} (h : m.count ≤ trip) (w : Window) (x : Sample) :
    (m.judge trip w x).1.count ≤ trip := by
  unfold Monitor.judge
  split_ifs <;> simp <;> omega

theorem submitSample_fit {st : Settings} {ms : Monitors} (h : MonitorsFit st.trip ms) (i : Fin 8) (x : Sample) :
    MonitorsFit st.trip (submitSample st i x ms).1 := by
  intro j
  by_cases hj : j = i
  · subst hj
    rw [submitSample_inputs_self]
    exact judge_count_le (h j) _ _
  · rw [submitSample_inputs_of_ne st i x ms hj]
    exact h j

/-! ### The reactions outside the rounds -/

/-- A step's counters: what a reaction must bring. -/
abbrev Kept (t : State) : Prop := Fits t ∧ Early t

theorem leaveStarting_kept (g : Kept s) : Kept s.leaveStarting := by
  obtain ⟨g, he⟩ := g
  unfold State.leaveStarting
  split
  next h =>
    have hm : MembershipFits s.settings.rollPeriod { s.membership with state := .seeking } :=
      ⟨g.membership.losses, .inr (g.membership.withdrawn.resolve_left (by simp [h.1])), g.membership.misses,
        g.membership.roll⟩
    exact ⟨(g.setMembership hm).setLine (.of_none rfl rfl), .inl h.2.1⟩
  next => exact ⟨g, he⟩

/-- The settings come into force where nothing has counted. -/
theorem setupValidation_kept (g : Kept s) : Kept s.setupValidation := by
  unfold State.setupValidation
  split
  · exact g
  next hv =>
    obtain ⟨g, he⟩ := g
    have n := he.resolve_left hv
    refine leaveStarting_kept ⟨?_, .inl rfl⟩
    exact
      { engine := g.engine
        membership := ⟨g.membership.losses, g.membership.withdrawn, g.membership.misses,
          by show s.membership.rollTimer ≤ _; simp [n.roll]⟩
        restCount := g.restCount
        longLows := g.longLows
        line := ⟨g.line.singles, by show s.line.burstPoints ≤ _; simp [n.points]⟩
        orders := ⟨g.orders.pulses, fun t _ => by show s.orders.openTimer ≤ t; simp [n.timer]⟩
        monitors := fun i => (n.monitors i).trans (Nat.zero_le _) }

theorem startupScan_kept (g : Kept s) : Kept s.startupScan := by
  unfold State.startupScan
  split
  · exact g
  · have k := scanThrough_touches scanStages s
    obtain ⟨gf, ge⟩ : Kept (State.scanThrough scanStages s) := ⟨k.fits g.1, k.early g.2⟩
    refine leaveStarting_kept ⟨?_, ge.imp id fun n => ⟨n.roll, n.monitors, n.points, n.timer, n.converter⟩⟩
    exact ⟨⟨gf.engine.missed, gf.engine.merges, gf.engine.remaining, gf.engine.rounds⟩, gf.membership, gf.restCount,
      gf.longLows, gf.line, gf.orders, gf.monitors⟩

theorem becomeAligned_kept (g : Counted s) (h : s.membership.state = .seeking) (slot : Fin 38) (q : Quarter) :
    Kept (s.becomeAligned slot q) := by
  have hm : MembershipFits s.settings.rollPeriod s.membership.join :=
    ⟨g.fits.membership.losses, .inr (g.fits.membership.withdrawn.resolve_left (by simp [h])),
      g.fits.membership.misses, Nat.zero_le _⟩
  exact ⟨(g.fits.setLine (.of_none rfl rfl)).setMembership hm, .inl (g.validated_seeking h)⟩

theorem alignByMarks_kept (g : Counted s) : Kept s.alignByMarks := by
  unfold State.alignByMarks
  split
  next h => exact becomeAligned_kept g (searching_seeking (Bool.and_eq_true_iff.1 h).1).1 _ _
  next => exact ⟨g.fits, g.early⟩

theorem searchStep_le {singles : Option Nat} (h : singles.getD 0 ≤ 36) (i : Interval) :
    (searchStep singles i).getD 0 ≤ 36 := by
  cases i <;> cases singles <;> simp [searchStep]
  split
  next hlt => simpa [Config.markSingles] using hlt
  next => simp

theorem markSearchEdge_kept (g : Counted s) (n : Nat) : Kept (s.markSearchEdge n) := by
  unfold State.markSearchEdge
  split
  next h =>
    have hm := (searching_seeking h).1
    split
    · split
      · exact becomeAligned_kept g hm _ _
      · exact ⟨g.fits.setLine ⟨searchStep_le g.fits.line.singles _, g.fits.line.points⟩, .inl (g.validated_seeking hm)⟩
    · exact ⟨g.fits.setLine ⟨by simp, g.fits.line.points⟩, .inl (g.validated_seeking hm)⟩
  next => exact ⟨g.fits, g.early⟩

theorem silenceTimerExpiry_kept (g : Counted s) (b : Bool) (d : BitVec 6) : Kept (s.silenceTimerExpiry b d) := by
  unfold State.silenceTimerExpiry
  split
  next h =>
    have hv := g.validated_seeking (searching_seeking h).1
    split
    · exact ⟨g.fits.setLine ⟨by simp, g.fits.line.points⟩, .inl hv⟩
    · exact ⟨g.fits.setLine (g.fits.line.of_eq rfl rfl), .inl hv⟩
  next => exact ⟨g.fits, g.early⟩

theorem edgeDuringBackoff_kept (g : Counted s) (b : Bool) : Kept (s.edgeDuringBackoff b) := by
  unfold State.edgeDuringBackoff
  split_ifs
  · exact ⟨g.fits.setLine (.of_none rfl rfl), g.early.setLine (.inl rfl)⟩
  · exact ⟨g.fits.setLine (.of_none rfl rfl), g.early.setLine (.inl rfl)⟩
  · exact ⟨g.fits, g.early⟩

theorem openLine_kept (g : Counted s) : Kept s.openLine := by
  unfold State.openLine
  split
  next h => exact becomeAligned_kept g h.2 _ _
  next => exact ⟨g.fits, g.early⟩

theorem lineRise_kept (g : Counted s) : Kept s.lineRise := by
  unfold State.lineRise
  split <;> exact ⟨g.fits.setLine (g.fits.line.of_eq rfl rfl), g.early.setLine (.inr rfl)⟩

theorem missedRound_kept (g : Counted s) :
    Kept (s.setLine { s.line with burstPoints := 0, position := 0, phase := .q1, phaseTime := 0 }) :=
  ⟨g.fits.setLine ⟨g.fits.line.singles, Nat.zero_le _⟩, g.early.setLine (.inl rfl)⟩

theorem streamWordLoad_kept (g : Counted s) : Kept s.streamWordLoad := by
  unfold State.streamWordLoad
  split
  · exact ⟨g.fits.setOrders ⟨g.fits.orders.pulses, g.fits.orders.timer⟩,
      g.early.imp id fun n => ⟨n.roll, n.monitors, n.points, n.timer, n.converter⟩⟩
  · exact ⟨g.fits, g.early⟩

theorem alertPulseEnd_kept (g : Counted s) : Kept s.alertPulseEnd := by
  unfold State.alertPulseEnd
  split
  · exact ⟨g.fits.setPins _, g.early.imp id fun n => ⟨n.roll, n.monitors, n.points, n.timer, n.converter⟩⟩
  · exact ⟨g.fits, g.early⟩

/-! ### Within a round -/

theorem markSlot_kept (g : Counted s) (code : BitVec 16) : Kept (s.markSlot code) := by
  unfold State.markSlot
  split
  next h =>
    simp only [Bool.and_eq_true, beq_iff_eq] at h
    have f := g.fits
    exact ⟨⟨f.engine, f.membership, f.restCount, f.longLows, f.line.of_eq rfl rfl, ⟨f.orders.pulses, f.orders.timer⟩,
      f.monitors⟩, .inl (g.validated_onLine h.1.2)⟩
  next => exact ⟨g.fits, g.early⟩

/-- The next burst point is one of the density's (R51). -/
theorem nextBurstPoint_lt {l : Line} {density d : Nat} (h : l.nextBurstPoint density = some d) : d < density :=
  List.mem_range.1 (List.mem_of_find?_eq_some h)

theorem burstPoint_kept (g : Counted s) (d : Nat) : Kept (s.burstPoint d) := by
  unfold State.burstPoint
  split
  next h =>
    obtain ⟨⟨ha, hn⟩, -⟩ : (s.line.align = .aligned ∧ s.line.nextBurstPoint s.settings.density = some d) ∧ _ := by
      simpa [State.atBurstPoint] using h
    have hv := g.validated_aligned ha
    have hl : LineFits s.settings.density (s.line.atPoint s.settings.density d) :=
      ⟨g.fits.line.singles, nextBurstPoint_lt hn⟩
    unfold State.beginRepetition
    split
    · exact ⟨(g.fits.setLine hl).setSequencer _, .inl hv⟩
    · exact ⟨g.fits.setLine hl, .inl hv⟩
  next => exact ⟨g.fits, g.early⟩

theorem surveyConversionDone_kept (g : Counted s) (x : Sample) : Kept (s.surveyConversionDone x) := by
  unfold State.surveyConversionDone
  split
  next hc _ =>
    have hv := g.validated_converting (by simp [hc])
    split
    · simp only
      split
      · exact ⟨(g.fits.setSequencer _).setMonitors (submitSample_fit g.fits.monitors _ _), .inl hv⟩
      · exact ⟨g.fits.setSequencer _, .inl hv⟩
    · exact ⟨g.fits, g.early⟩
  next => exact ⟨g.fits, g.early⟩

theorem burstConversionDone_kept (g : Counted s) (x : Sample) : Kept (s.burstConversionDone x) := by
  unfold State.burstConversionDone
  split
  next hc _ => exact ⟨(g.fits.setStaging _).setSequencer _, .inl (g.validated_converting (by simp [hc]))⟩
  next => exact ⟨g.fits, g.early⟩

/-! ### Leaving the line -/

theorem countMiss_missed_le {e : Engine} (h : e.missed ≤ 15) (a : Word) : (countMiss a e).missed ≤ 15 := by
  show (if e.missed < 15 then e.missed + 1 else e.missed) ≤ 15
  split <;> omega

theorem depart_engineFits (g : Fits s) : EngineFits s.depart.engine := by
  obtain ⟨hidle, -, -, -, heq⟩ := s.depart_engine
  have hnot : s.depart.engine.state ≠ .capturing := by rw [hidle]; exact nofun
  refine ⟨?_, ?_, fun h => absurd h hnot, fun h => absurd h hnot⟩
  · rw [heq]
    split
    · exact countMiss_missed_le g.engine.missed s.engine.primary
    · exact g.engine.missed
  · rw [heq]
    split
    · exact Nat.zero_le _
    · exact g.engine.merges

/-- A departure leaves the setup pulse count, and the open timer at 0 or as it was (R140, R163). -/
theorem depart_pulses (s : State) :
    s.depart.orders.pulseCount = s.orders.pulseCount ∧ s.depart.orders.pulseIndex = s.orders.pulseIndex
      ∧ (s.depart.orders.openTimer = s.orders.openTimer ∨ s.depart.orders.openTimer = 0) := by
  have hp : ∀ t : State, t.engineDepart.orders = t.orders := by
    intro t; unfold State.engineDepart; split <;> rfl
  unfold State.depart
  simp only
  split <;> simp [State.ordersDepart, State.dropAnswers, Orders.cleared, hp]

theorem depart_fits (g : Fits s) : Fits s.depart := by
  obtain ⟨-, -, hmonitors, hrest⟩ := s.depart_acquisition
  obtain ⟨hcount, hindex, htimer⟩ := depart_pulses s
  constructor
  · exact depart_engineFits g
  · rw [State.depart_settings, State.depart_membership]; exact g.membership
  · rw [hrest]; exact Nat.zero_le _
  · rw [hrest]; exact g.longLows
  · rw [State.depart_settings, State.depart_line]; exact g.line
  · rw [State.depart_settings]
    refine ⟨by simpa only [Orders.pulseCountFits, hcount, hindex] using g.orders.pulses, fun t ht => ?_⟩
    rcases htimer with h | h <;> rw [h]
    · exact g.orders.timer t ht
    · exact Nat.zero_le t
  · rw [hmonitors]; exact clearTripCounts_fit _ _

theorem withdraw_fits (g : Fits s) (c : Cause) : Fits (s.withdraw c) := by
  have d := depart_fits g
  exact (d.setLine (.of_none rfl rfl)).setMembership
    ⟨d.membership.losses, .inl rfl, d.membership.misses, d.membership.roll⟩

@[simp] theorem State.withdraw_validated (s : State) (c : Cause) :
    (s.withdraw c).setup.validated = s.setup.validated := s.depart_validated

theorem driverFault_kept (g : Counted s) : Kept s.driverFault := by
  unfold State.driverFault
  split
  next h => exact ⟨withdraw_fits g.fits _, .inl ((s.withdraw_validated _).trans (g.validated_onLine h))⟩
  next => exact ⟨g.fits, g.early⟩

theorem emptyRoster_misses (k : Fin 31) : emptyRoster[k].misses ≤ 2 := by
  simp [emptyRoster]

theorem lost_fits {period : Nat} {m : Membership} (h : m.syncLosses < 3) : MembershipFits period m.lost :=
  ⟨h.le, .inr h, emptyRoster_misses, Nat.zero_le _⟩

theorem foreignPulse_kept (g : Counted s) (b : Bool) : Kept (s.foreignPulse b) := by
  unfold State.foreignPulse
  split
  next h =>
    have hv : s.setup.validated = true := g.validated (by simp [h]) (by simp [h])
    have hlt := g.fits.membership.withdrawn.resolve_left (by simp [h])
    simp only
    split
    · have w := withdraw_fits g.fits .sync
      refine ⟨w.setMembership ⟨?_, .inl rfl, w.membership.misses, w.membership.roll⟩,
        .inl ((s.withdraw_validated .sync).trans hv)⟩
      exact hlt
    next hle =>
      refine ⟨((depart_fits g.fits).setLine (.of_none rfl rfl)).setMembership (lost_fits ?_),
        .inl (s.depart_validated.trans hv)⟩
      exact Nat.not_le.1 hle
  next h =>
    have hv : s.setup.validated = true := g.validated (by simp [h]) (by simp [h])
    have hlt := g.fits.membership.withdrawn.resolve_left (by simp [h])
    refine ⟨((depart_fits g.fits).setLine (.of_none rfl rfl)).setMembership ?_, .inl (s.depart_validated.trans hv)⟩
    exact lost_fits (by simpa using hlt)
  all_goals exact ⟨g.fits, g.early⟩

theorem lineEdge_kept (g : Counted s) (e : LineEdge) : Kept (s.lineEdge e) := by
  unfold State.lineEdge
  split
  · split
    · exact foreignPulse_kept g _
    · split_ifs
      · exact ⟨g.fits, g.early⟩
      · exact foreignPulse_kept g _
      · exact ⟨g.fits.setLine (g.fits.line.of_eq rfl rfl), g.early.setLine (.inr rfl)⟩
      · exact ⟨g.fits, g.early⟩
  · exact ⟨g.fits, g.early⟩

/-! ### Rest and wake -/

theorem beginPattern_fits (g : Fits s) : Fits s.beginPattern :=
  ⟨g.engine, g.membership, g.restCount, Nat.zero_le _, g.line.of_eq rfl rfl, g.orders, g.monitors⟩

theorem senseTimerExpiry_kept (g : Counted s) : Kept s.senseTimerExpiry := by
  unfold State.senseTimerExpiry
  split
  next h =>
    have hd := ((resting_iff s).1 (Bool.and_eq_true_iff.1 h).1).1
    have f : Fits (s.setRest { s.rest with sense := some Timer.zero }) := g.fits.setRest g.fits.restCount g.fits.longLows
    exact ⟨f.setSequencer _, .inl (g.validated_dormant hd)⟩
  next => exact ⟨g.fits, g.early⟩

theorem senseConversionDone_kept (g : Counted s) (x : Sample) : Kept (s.senseConversionDone x) := by
  unfold State.senseConversionDone
  split
  next h =>
    have hv := g.validated_converting (by simp [h])
    have f : Fits ((s.setSequencer { s.sequencer with converter := .idle, elapsed := 0 }).setMonitors
        (submitSample s.settings s.settings.senseInput x s.monitors).1) :=
      (g.fits.setSequencer _).setMonitors (submitSample_fit g.fits.monitors _ _)
    simp only
    split
    · exact ⟨beginPattern_fits f, .inl hv⟩
    · exact ⟨f, .inl hv⟩
  next => exact ⟨g.fits, g.early⟩

theorem forcedWakeExpiry_kept (g : Counted s) : Kept s.forcedWakeExpiry := by
  unfold State.forcedWakeExpiry
  split
  next h =>
    have hd := ((resting_iff s).1 (Bool.and_eq_true_iff.1 h).1).1
    exact ⟨beginPattern_fits g.fits, .inl (g.validated_dormant hd)⟩
  next => exact ⟨g.fits, g.early⟩

theorem leaveDormant_fits (g : Fits s) (h : s.membership.state = .dormant) : Fits s.leaveDormant :=
  { engine := g.engine
    membership := ⟨g.membership.losses, .inr (g.membership.withdrawn.resolve_left (by simp [h])), g.membership.misses,
      g.membership.roll⟩
    restCount := g.restCount
    longLows := Nat.zero_le _
    line := .of_none rfl rfl
    orders := g.orders
    monitors := clearTripCounts_fit _ _ }

theorem wakePatternEnd_kept (g : Counted s) : Kept s.wakePatternEnd := by
  unfold State.wakePatternEnd
  split
  next h =>
    have hd := beq_iff_eq.1 (Bool.and_eq_true_iff.1 h).2
    exact ⟨leaveDormant_fits g.fits hd, .inl (g.validated_dormant hd)⟩
  next => exact ⟨g.fits, g.early⟩

theorem longLow_kept (g : Counted s) : Kept s.longLow := by
  unfold State.longLow
  split
  next h =>
    have hd := ((resting_iff s).1 (Bool.and_eq_true_iff.1 h).1).1
    have hv := g.validated_dormant hd
    have f : Fits (s.setLine { s.line with detector := .reported }) := g.fits.setLine (g.fits.line.of_eq rfl rfl)
    unfold State.countLongLow
    split_ifs
    · exact ⟨leaveDormant_fits f hd, .inl hv⟩
    · exact ⟨f.setRest g.fits.restCount (Nat.le_succ 1), .inl hv⟩
    · exact ⟨f.setRest g.fits.restCount (Nat.le_refl _), .inl hv⟩
  next => exact ⟨g.fits, g.early⟩

theorem longLowTimingStart_kept (g : Counted s) : Kept s.longLowTimingStart := by
  unfold State.longLowTimingStart
  split
  · exact ⟨g.fits.setLine (g.fits.line.of_eq rfl rfl), g.early.setLine (.inr rfl)⟩
  · exact ⟨g.fits, g.early⟩

theorem patternWindowExpiry_kept (g : Counted s) : Kept s.patternWindowExpiry := by
  unfold State.patternWindowExpiry
  split
  · exact ⟨g.fits.setRest g.fits.restCount (Nat.zero_le _),
      g.early.imp id fun n => ⟨n.roll, n.monitors, n.points, n.timer, n.converter⟩⟩
  · exact ⟨g.fits, g.early⟩

end

end Sys2Proof.Machine
end

section
/-!
The counters through a round end, and O60: the engine's capture counts (R84 to R89), the Order Unit's pulse count and open
timer (R156, R170, R172), the rest count (R178).
-/

namespace Sys2Proof.Machine

/-! ### The engine's counts at a round end -/

/-- The engine's counters while it reacts: the remaining rounds may stand at 0 at the end of a capture round (R86). -/
structure EngineRuns (last : Bool) (e : Engine) : Prop where
  missed : e.missed ≤ 15
  merges : e.merges.length ≤ 4
  rounds : e.state = .capturing → e.captured + e.remaining ≤ 32
  remaining : e.state = .capturing → last = false → 1 ≤ e.remaining

theorem EngineFits.runs {e : Engine} (h : EngineFits e) (last : Bool) : EngineRuns last e :=
  ⟨h.missed, h.merges, h.rounds, fun hc _ => h.remaining hc⟩

theorem countCaptureRound_runs {e : Engine} (h : EngineFits e) : EngineRuns true (countCaptureRound e) where
  missed := h.missed
  merges := h.merges
  rounds hc := by
    have h1 := h.remaining hc
    have h2 := h.rounds hc
    show e.captured + 1 + (e.remaining - 1) ≤ 32
    omega
  remaining _ := nofun

theorem mergeIncident_keeps (a : Word) (e : Engine) :
    (mergeIncident a e).missed = e.missed ∧ (mergeIncident a e).state = e.state
      ∧ (mergeIncident a e).captured = e.captured ∧ (mergeIncident a e).remaining = e.remaining := by
  unfold mergeIncident
  split_ifs <;> exact ⟨rfl, rfl, rfl, rfl⟩

theorem mergeIncident_merges_le {e : Engine} (h : e.merges.length ≤ 4) (a : Word) :
    (mergeIncident a e).merges.length ≤ 4 := by
  unfold mergeIncident
  split_ifs with h1 h2
  · exact h
  · rw [List.length_append]
    exact h2
  · exact h

/-- A merge and extension keep a capture within 32 rounds, with a round to come unless 32 are captured (R88, R89). -/
theorem mergeAndExtend_runs {last : Bool} {e : Engine} (h : EngineRuns last e) (g : Agreement) :
    EngineRuns last (mergeAndExtend g e) := by
  obtain ⟨hmissed, hstate, hcaptured, hremaining⟩ := mergeIncident_keeps g.number e
  have hs : (mergeAndExtend g e).state = e.state := hstate
  have hc : (mergeAndExtend g e).captured = e.captured := hcaptured
  have hr : (mergeAndExtend g e).remaining = min (max e.remaining (g.postCode.toNat + 1)) (32 - e.captured) := by
    rw [← hcaptured, ← hremaining]; rfl
  refine ⟨(show (mergeIncident g.number e).missed ≤ 15 by rw [hmissed]; exact h.missed),
    mergeIncident_merges_le h.merges g.number, ?_, ?_⟩
  · rw [hs, hc, hr]
    intro hcap
    have := h.rounds hcap
    omega
  · rw [hs, hr]
    intro hcap hlast
    have h1 := h.rounds hcap
    have h2 := h.remaining hcap hlast
    omega

theorem engineCapturing_runs (last : Bool) (g : Agreement) (e : Engine) : EngineRuns last (engineCapturing g e) where
  missed := Nat.zero_le _
  merges := Nat.zero_le _
  rounds _ := by
    have := g.postCode.isLt
    show 0 + (g.postCode.toNat + 1) ≤ 32
    omega
  remaining _ _ := Nat.le_add_left _ _

theorem settleIncident_runs {s : State} {last : Bool} (h : EngineRuns last s.engine) (g : Agreement) (n : RoundCount)
    (claimed : Bool) : EngineRuns last (s.settleIncident g n claimed).engine := by
  unfold State.settleIncident
  simp only
  split
  · next hidle =>
    have hidle : s.engine.state = .idle := hidle
    have miss : EngineRuns last (countMiss g.number s.engine) :=
      ⟨countMiss_missed_le h.missed _, h.merges, h.rounds, h.remaining⟩
    unfold State.settleIdle
    split
    · exact ⟨h.missed, h.merges, h.rounds, h.remaining⟩
    · split
      · split
        · exact engineCapturing_runs last g s.engine
        · exact miss
      · exact miss
  · exact mergeAndExtend_runs h g

theorem endCapture_fits {s : State} {last : Bool} (h : EngineRuns last s.engine) : EngineFits s.endCapture.engine :=
  ⟨h.missed, h.merges, nofun, nofun⟩

/-- The engine's reaction keeps its counters (R80 to R90). -/
theorem engineRoundEnd_fits {s : State} (h : EngineFits s.engine) {o : Offers} (r : Round) (m : Bool) (n : RoundCount) :
    EngineFits (s.engineRoundEnd o r m n).engine := by
  unfold State.engineRoundEnd
  simp only
  have h1 : ∀ t : State, EngineFits t.engine → EngineFits (if (r.kind == .incident) = true then
      t.setEngine { t.engine with next := nextAfter t.engine.next (readAgreement r.body).number } else t).engine := by
    intro t ht
    split
    · exact ⟨ht.missed, ht.merges, ht.remaining, ht.rounds⟩
    · exact ht
  have h2 : ∀ t : State, EngineFits t.engine → EngineRuns o.captureRound
      (if o.captureRound = true then t.setEngine (countCaptureRound t.engine) else t).engine := by
    intro t ht
    split
    next hc => rw [hc]; exact countCaptureRound_runs ht
    next => exact ht.runs _
  have h3 : ∀ t : State, EngineRuns o.captureRound t.engine → EngineRuns o.captureRound
      (if (r.kind == .incident && m) = true then t.settleIncident (readAgreement r.body) n o.claims else t).engine := by
    intro t ht
    split
    · exact settleIncident_runs ht _ _ _
    · exact ht
  have h4 : ∀ t : State, EngineRuns o.captureRound t.engine → EngineFits
      (if (o.captureRound && t.engine.state == .capturing && t.engine.remaining == 0) = true
        then t.endCapture else t).engine := by
    intro t ht
    split
    next => exact endCapture_fits ht
    next hn =>
      refine ⟨ht.missed, ht.merges, fun hc => ?_, ht.rounds⟩
      cases hl : o.captureRound with
      | false => exact ht.remaining hc hl
      | true =>
        refine Nat.one_le_iff_ne_zero.2 fun hz => hn ?_
        simp [hl, hc, hz]
  exact h4 _ (h3 _ (h2 _ (h1 _ h)))

/-! ### The reactions before the Order Unit's -/

section
variable {s : State}

theorem roll_misses_le {e : RosterEntry} (pulled : Bool) : (e.roll pulled).misses ≤ 2 := by
  unfold RosterEntry.roll
  split_ifs <;> simp
  omega

theorem rolled_fits {period : Nat} {m : Membership} (h : MembershipFits period m) (body : Body) :
    MembershipFits period (m.rolled body) := by
  refine ⟨?_, ?_, fun k => ?_, Nat.zero_le _⟩
  · show (if m.state = .member then 0 else m.syncLosses) ≤ 3
    split
    · exact Nat.zero_le _
    · exact h.losses
  · refine h.withdrawn.imp id fun hlt => ?_
    show (if m.state = .member then 0 else m.syncLosses) < 3
    split
    · exact Nat.zero_lt_succ _
    · exact hlt
  · simpa [Membership.rolled] using roll_misses_le _

theorem countRoll_fits {period : Nat} {m : Membership} (h : MembershipFits period m) :
    MembershipFits period (m.countRoll period) := by
  unfold Membership.countRoll
  split
  · exact ⟨h.losses, h.withdrawn, h.misses, Nat.min_le_right _ _⟩
  · exact h

theorem becomeMember_fits {period : Nat} {m : Membership} (h : MembershipFits period m) (hj : m.state = .joining) :
    MembershipFits period m.becomeMember := by
  refine ⟨h.losses, .inr (h.withdrawn.resolve_left (by simp [hj])), fun k => ?_, h.roll⟩
  show (m.roster.setIfInBounds m.number.toNat ⟨true, 0⟩)[k.val].misses ≤ 2
  rw [Vector.getElem_setIfInBounds]
  split
  · exact Nat.zero_le _
  · exact h.misses k

theorem membershipRoundEnd_fits (g : Fits s) (o : Offers) (r : Round) (out : OfferOutcome) :
    Fits (s.membershipRoundEnd o r out) := by
  unfold State.membershipRoundEnd
  split
  next hj _ =>
    split
    · exact withdraw_fits g _
    · exact g.setMembership (becomeMember_fits g.membership hj)
    · split
      · exact g.setMembership (rolled_fits g.membership _)
      · exact g
  next =>
    split
    · exact g.setMembership (rolled_fits g.membership _)
    · exact g.setMembership (countRoll_fits g.membership)

theorem completePass_fits (g : Fits s) : Fits s.completePass := by
  unfold State.completePass
  split
  · exact g
  · exact ⟨g.engine, g.membership, g.restCount, g.longLows, g.line, g.orders, g.monitors⟩

theorem lineRoundEnd_fits (g : Fits s) : Fits s.lineRoundEnd := g.setLine ⟨g.line.singles, Nat.zero_le _⟩

theorem ringRoundEnd_fits (g : Fits s) (r : Round) : Fits (s.ringRoundEnd r) := by
  unfold State.ringRoundEnd
  split
  · exact ⟨g.engine, g.membership, g.restCount, g.longLows, g.line, g.orders, g.monitors⟩
  · exact g

theorem settleIncident_monitors (s : State) (a : Agreement) (n : RoundCount) (claimed : Bool) :
    (s.settleIncident a n claimed).monitors = clearTrips s.monitors := by
  unfold State.settleIncident
  simp only
  split
  · exact settleIdle_monitors _ _ _ _
  · rfl

/-- The monitors after the engine's reaction: the trip set emptied by an INCIDENT round as MEMBER, else as they were (R60). -/
theorem engineRoundEnd_monitors (s : State) (o : Offers) (r : Round) (m : Bool) (n : RoundCount) :
    (s.engineRoundEnd o r m n).monitors
      = if r.kind = .incident ∧ m = true then clearTrips s.monitors else s.monitors := by
  unfold State.engineRoundEnd
  simp only
  have h1 : ∀ t : State, (if (r.kind == .incident) = true then
      t.setEngine { t.engine with next := nextAfter t.engine.next (readAgreement r.body).number } else t).monitors
        = t.monitors := by
    intro t; split <;> rfl
  have h2 : ∀ t : State, (if o.captureRound = true then t.setEngine (countCaptureRound t.engine) else t).monitors
      = t.monitors := by
    intro t; split <;> rfl
  have h4 : ∀ t : State, (if (o.captureRound && t.engine.state == .capturing && t.engine.remaining == 0) = true
      then t.endCapture else t).monitors = t.monitors := by
    intro t; split <;> rfl
  rw [h4]
  by_cases hi : r.kind = .incident ∧ m = true
  · rw [if_pos hi, if_pos (by simpa using hi), settleIncident_monitors, h2, h1]
  · rw [if_neg hi, if_neg (by simpa using hi), h2, h1]

theorem engineRoundEnd_stationFits (g : Fits s) (o : Offers) (r : Round) (m : Bool) (n : RoundCount) :
    Fits (s.engineRoundEnd o r m n) := by
  have k := engineRoundEnd_keeps s o r m n
  have e := engineRoundEnd_engineKeeps s o r m n
  constructor
  · exact engineRoundEnd_fits g.engine r m n
  · rw [k.settings, e.membership]; exact g.membership
  · rw [e.rest]; exact g.restCount
  · rw [e.rest]; exact g.longLows
  · rw [k.settings, e.line]; exact g.line
  · rw [k.settings, k.orders]; exact g.orders
  · rw [k.settings, engineRoundEnd_monitors]
    split
    · exact clearTrips_fit g.monitors
    · exact g.monitors

theorem beforeOrders_fits (g : Fits s) (o : Offers) (r : Round) (out : OfferOutcome) :
    Fits (s.beforeOrders o r out) := by
  rw [State.beforeOrders_eq]
  have hb : Fits (s.beforeEngine o r out) :=
    membershipRoundEnd_fits (ringRoundEnd_fits (lineRoundEnd_fits (completePass_fits g)) r) o r out
  have he := engineRoundEnd_stationFits hb o r ((s.beforeEngine o r out).membership.state == .member) s.line.count
  exact (he.setPins _).setEngine ⟨he.engine.missed, he.engine.merges, he.engine.remaining, he.engine.rounds⟩

/-! ### The Order Unit at a round end -/

/-- What the Order Unit's limits speak of stands in one unit as in another, or is cleared. -/
theorem OrdersFits.of_eq {timeout : Option Nat} {o p : Orders} (g : OrdersFits timeout o)
    (hc : p.pulseCount = o.pulseCount) (hi : p.pulseIndex = o.pulseIndex) (ht : p.openTimer = o.openTimer) :
    OrdersFits timeout p :=
  ⟨by simpa only [Orders.pulseCountFits, hc, hi] using g.pulses, by rw [ht]; exact g.timer⟩

theorem OrdersFits.clearCount {timeout : Option Nat} {o : Orders} (g : OrdersFits timeout o) :
    OrdersFits timeout o.clearCount := ⟨rfl, g.timer⟩

theorem readStream_pulses (s : State) (st : Machine.Stream) :
    (s.readStream st).orders.pulseCount = s.orders.pulseCount ∧ (s.readStream st).orders.pulseIndex = s.orders.pulseIndex
      ∧ (s.readStream st).orders.openTimer = s.orders.openTimer := by
  unfold State.readStream
  split
  · exact ⟨rfl, rfl, rfl⟩
  · split <;> exact ⟨rfl, rfl, rfl⟩

theorem readStream_ordersFits {timeout : Option Nat} (g : OrdersFits timeout s.orders) (st : Machine.Stream) :
    OrdersFits timeout (s.readStream st).orders := by
  obtain ⟨hc, hi, ht⟩ := readStream_pulses s st
  exact g.of_eq hc hi ht

theorem replyDelivered_ordersFits {timeout : Option Nat} (g : OrdersFits timeout s.orders) :
    OrdersFits timeout s.replyDelivered.orders := by
  unfold State.replyDelivered
  split
  · exact g
  · split
    · exact g.of_eq rfl rfl rfl
    · split
      · exact g.of_eq rfl rfl rfl
      · exact readStream_ordersFits (s := s.setOrders { s.orders with outbox := none }) (g.of_eq rfl rfl rfl) _

theorem openTimerRoundEnd_ordersFits (g : OrdersFits s.settings.openTimeout s.orders) :
    OrdersFits s.settings.openTimeout s.openTimerRoundEnd.orders := by
  unfold State.openTimerRoundEnd
  split
  · exact g
  next limit hlimit =>
    split_ifs with h1 h2
    · exact ⟨g.pulses, fun _ _ => Nat.zero_le _⟩
    · refine ⟨g.pulses, fun t ht => ?_⟩
      have : t = limit := Option.some.inj (ht.symm.trans hlimit)
      show s.orders.openTimer + 1 ≤ t
      omega
    · exact g

/-- Once an order is accepted, its own pulse count stands below its sequence's last number, and any other's at 0 (R140). -/
theorem accepted_pulses {x : State} {code : OrderCode} {arg : Word} (h : Accepts s x code arg)
    (g : s.orders.pulseCountFits = true) :
    x.orders.pulseCountFits = true ∧ (code = .program → x.orders.pulseCount ≤ 3)
      ∧ (code = .erase → x.orders.pulseCount ≤ 7) := by
  have hcount := h.count
  have hindex := h.index
  by_cases hk : s.orders.keepsCount code arg = true
  · rw [if_pos hk] at hcount hindex
    simp only [Orders.pulseCountFits, hcount, hindex]
    refine ⟨g, ?_, ?_⟩
    · rintro rfl
      have hi : s.orders.pulseIndex = some (.program arg.toNat) := beq_iff_eq.1 hk
      simpa [Orders.pulseCountFits, hi] using g
    · rintro rfl
      have hi : s.orders.pulseIndex = some .erase := beq_iff_eq.1 (Bool.and_eq_true_iff.1 hk).2
      simpa [Orders.pulseCountFits, hi] using g
  · rw [if_neg hk] at hcount hindex
    simp only [Orders.pulseCountFits, hcount, hindex]
    exact ⟨rfl, fun _ => Nat.zero_le _, fun _ => Nat.zero_le _⟩

section
variable {timeout : Option Nat}

theorem pulseBusy_ordersFits (g : OrdersFits timeout s.orders) (arg : Word) :
    OrdersFits timeout (s.pulseBusy arg).orders := g.clearCount.of_eq rfl rfl rfl

theorem pulseLast_ordersFits (g : OrdersFits timeout s.orders) (w : Owed) (p : Pulse) :
    OrdersFits timeout (s.pulseLast w p).orders := g.clearCount

theorem programOrder_ordersFits (g : OrdersFits timeout s.orders) (hc : s.orders.pulseCount ≤ 3) (i : Word) :
    OrdersFits timeout (s.programOrder i).orders := by
  unfold State.programOrder
  split_ifs with h1 h2 h3
  · exact g.of_eq rfl rfl rfl
  · exact pulseBusy_ordersFits g _
  · exact pulseLast_ordersFits g _ _
  · refine ⟨decide_eq_true ?_, g.timer⟩
    show s.orders.pulseCount + 1 ≤ 3
    omega

theorem eraseSetupOrder_ordersFits (g : OrdersFits timeout s.orders) (hc : s.orders.pulseCount ≤ 7) :
    OrdersFits timeout s.eraseSetupOrder.orders := by
  unfold State.eraseSetupOrder
  split_ifs with h1 h2
  · exact pulseBusy_ordersFits g _
  · exact pulseLast_ordersFits g _ _
  · refine ⟨decide_eq_true ?_, g.timer⟩
    show s.orders.pulseCount + 1 ≤ 7
    omega

theorem fetchOrder_ordersFits (g : OrdersFits timeout s.orders) (n : Word) :
    OrdersFits timeout (s.fetchOrder n).orders := by
  unfold State.fetchOrder State.fetchOldest State.fetchNumber
  split_ifs
  · exact readStream_ordersFits g _
  · split
    · exact g.of_eq rfl rfl rfl
    · exact readStream_ordersFits g _
  · exact g.of_eq rfl rfl rfl
  · split
    · exact g.of_eq rfl rfl rfl
    · exact readStream_ordersFits g _

theorem eraseBank_ordersFits (g : OrdersFits timeout s.orders) (b : BankId) (arg : Word) :
    OrdersFits timeout (s.eraseBank b arg).orders := by
  unfold State.eraseBank
  split <;> exact g.of_eq rfl rfl rfl

theorem handleOrder_ordersFits (g : OrdersFits timeout s.orders) {code : OrderCode}
    (hp : code = .program → s.orders.pulseCount ≤ 3) (he : code = .erase → s.orders.pulseCount ≤ 7) (arg : Word) :
    OrdersFits timeout (s.handleOrder code arg).orders := by
  unfold State.handleOrder
  split
  · exact g.clearCount.of_eq rfl rfl rfl
  cases code with
  | fetch => exact fetchOrder_ordersFits g arg
  | mark => simp only [State.markOrder]; split_ifs <;> exact g.of_eq rfl rfl rfl
  | unlock => exact g.of_eq rfl rfl rfl
  | relock => exact g.of_eq rfl rfl rfl
  | load => exact g.clearCount.of_eq rfl rfl rfl
  | program => exact programOrder_ordersFits g (hp rfl) arg
  | erase =>
    simp only [State.eraseOrder]
    split_ifs
    · exact eraseBank_ordersFits g _ _
    · exact eraseBank_ordersFits g _ _
    · exact eraseSetupOrder_ordersFits g (he rfl)
    · exact g.of_eq rfl rfl rfl
  | restart => exact g

end

theorem ordersRoundEnd_ordersFits (g : OrdersFits s.settings.openTimeout s.orders)
    (order : Option (OrderCode × Word)) (won : Bool) :
    OrdersFits s.settings.openTimeout (s.ordersRoundEnd order won).orders := by
  cases order with
  | some x =>
    have ha := acceptOrder_accepts s x.1 x.2
    obtain ⟨hpulses, hprogram, herase⟩ := accepted_pulses ha g.pulses
    exact handleOrder_ordersFits ⟨hpulses, fun t _ => by rw [ha.openTimer]; exact Nat.zero_le t⟩ hprogram herase _
  | none =>
    have ht := openTimerRoundEnd_ordersFits g
    unfold State.ordersRoundEnd
    simp only
    split
    · exact replyDelivered_ordersFits ht
    · exact ht

theorem ordersRoundEnd_fits (g : Fits s) (order : Option (OrderCode × Word)) (won : Bool) :
    Fits (s.ordersRoundEnd order won) := by
  have k := ordersRoundEnd_orderKeeps s order won
  constructor
  · rw [k.engine]; exact g.engine
  · rw [k.settings, k.membership]; exact g.membership
  · rw [k.rest]; exact g.restCount
  · rw [k.rest]; exact g.longLows
  · rw [k.settings, k.line]; exact g.line
  · rw [k.settings]; exact ordersRoundEnd_ordersFits g.orders order won
  · rw [k.settings, k.monitors]; exact g.monitors

/-! ### The round end as a whole, and every reaction -/

theorem rested_fits (g : Fits s) (low : Bool) : Fits (s.rested low) := by
  have d := depart_fits g
  exact
    { engine := d.engine
      membership := ⟨Nat.zero_le _, .inr (Nat.zero_lt_succ _), emptyRoster_misses, Nat.zero_le _⟩
      restCount := Nat.zero_le _
      longLows := Nat.zero_le _
      line := .of_none rfl rfl
      orders := d.orders
      monitors := d.monitors }

theorem restRoundEnd_fits (g : Fits s) (r : Round) : Fits (s.restRoundEnd r) := by
  unfold State.restRoundEnd
  split_ifs
  · exact g.setRest (Nat.zero_le _) g.longLows
  · rw [State.enterDormant_eq]
    split
    · exact beginPattern_fits (rested_fits g _)
    · exact rested_fits g _
  · exact g.setRest (Nat.min_le_right _ _) g.longLows
  · exact g

theorem closeRound_fits (g : Fits s) (o : Offers) (r : Round) (out : OfferOutcome) : Fits (s.closeRound o r out) := by
  have go := ordersRoundEnd_fits (beforeOrders_fits g o r out) (s.takenOrder r) (replyWon o out)
  have ga : Fits (((s.beforeOrders o r out).ordersRoundEnd (s.takenOrder r) (replyWon o out)).advanceCount r) :=
    go.setLine (go.line.of_eq rfl rfl)
  exact (keeps_take _).scanTouches.fits (restRoundEnd_fits ga r)

theorem closeRound_validated (s : State) (o : Offers) (r : Round) (out : OfferOutcome) :
    (s.closeRound o r out).setup.validated = s.setup.validated := by
  unfold State.closeRound State.afterOrders
  rw [(keeps_take _).validated, (restRoundEnd_restKeeps _ r).validated, State.advanceCount_setup,
    (ordersRoundEnd_orderKeeps _ _ _).validated, State.beforeOrders_setup]

/-- Nothing has counted at the start values (R1, R165). -/
theorem startValues_fit (m : Membership) (hl : m.syncLosses = 0) (hr : m.rollTimer = 0) (hm : m.roster = emptyRoster) :
    EngineFits State.reset.engine ∧ MembershipFits State.reset.settings.rollPeriod m
      ∧ LineFits State.reset.settings.density State.reset.line
      ∧ OrdersFits State.reset.settings.openTimeout State.reset.orders ∧ MonitorsFit 0 State.reset.monitors := by
  refine ⟨⟨Nat.zero_le _, Nat.zero_le _, nofun, nofun⟩, ⟨by omega, .inr (by omega), ?_, by omega⟩, .of_none rfl rfl,
    ⟨rfl, fun t _ => Nat.zero_le t⟩, fun i => ?_⟩
  · rw [hm]; exact emptyRoster_misses
  · simp [State.reset]

theorem startMembership_spec (straps : BitVec 5) : (startMembership straps).syncLosses = 0
    ∧ (startMembership straps).rollTimer = 0 ∧ (startMembership straps).roster = emptyRoster
    ∧ (startMembership straps).number = straps := by
  unfold startMembership
  split <;> exact ⟨rfl, rfl, rfl, rfl⟩

theorem started_kept (s : State) (i : StartInputs) : Kept (s.started i) := by
  obtain ⟨hlosses, hroll, hroster, -⟩ := startMembership_spec i.straps
  obtain ⟨he, hm, hl, ho, hms⟩ := startValues_fit _ hlosses hroll hroster
  exact ⟨⟨he, hm, Nat.zero_le _, Nat.zero_le _, hl, ho, fun j => (hms j).trans (Nat.zero_le _)⟩,
    .inr ⟨hroll, hms, rfl, rfl, rfl⟩⟩

theorem unpowered_kept (s : State) (c : Cut) : Kept (s.unpowered c) := by
  obtain ⟨he, hm, hl, ho, hms⟩ := startValues_fit State.reset.membership rfl rfl rfl
  exact ⟨⟨he, hm, Nat.zero_le _, Nat.zero_le _, hl, ho, fun j => (hms j).trans (Nat.zero_le _)⟩,
    .inr ⟨rfl, hms, rfl, rfl, rfl⟩⟩

theorem ScanTouches.kept {t : State} (k : ScanTouches s t) (g : Counted s) : Kept t := ⟨k.fits g.fits, k.early g.early⟩

theorem reaction_kept {u : State} (g : Counted s) (hu : Reaction s u) : Kept u := by
  cases hu with
  | nothing => exact ⟨g.fits, g.early⟩
  | setupValidation => exact setupValidation_kept ⟨g.fits, g.early⟩
  | startupScan => exact startupScan_kept ⟨g.fits, g.early⟩
  | alignByMarks => exact alignByMarks_kept g
  | markSearchEdge n => exact markSearchEdge_kept g n
  | silenceTimerExpiry b d => exact silenceTimerExpiry_kept g b d
  | edgeDuringBackoff b => exact edgeDuringBackoff_kept g b
  | openLine => exact openLine_kept g
  | lineEdge e => exact lineEdge_kept g e
  | driverFault => exact driverFault_kept g
  | lineRise => exact lineRise_kept g
  | markSlot code => exact markSlot_kept g code
  | burstPoint d => exact burstPoint_kept g d
  | surveyConversionDone x => exact surveyConversionDone_kept g x
  | burstConversionDone x => exact burstConversionDone_kept g x
  | missedRound _ => exact missedRound_kept g
  | started i => exact started_kept s i
  | closeRound o r out h =>
    exact ⟨closeRound_fits g.fits o r out, .inl ((closeRound_validated s o r out).trans (g.validated_onLine h.2.2.1))⟩
  | streamWordLoad => exact streamWordLoad_kept g
  | alertPulseEnd => exact alertPulseEnd_kept g
  | wordProgramDone missed => exact (wordProgramDone_keeps s missed).scanTouches.kept g
  | bankEraseDone u missed => exact (bankEraseDone_keeps s u missed).scanTouches.kept g
  | setupProgramPulseDone missed => exact (setupProgramPulseDone_keeps s missed).scanTouches.kept g
  | setupErasePulseDone u => exact (setupErasePulseDone_keeps s u).scanTouches.kept g
  | senseTimerExpiry => exact senseTimerExpiry_kept g
  | senseConversionDone x => exact senseConversionDone_kept g x
  | forcedWakeExpiry => exact forcedWakeExpiry_kept g
  | wakePatternEnd => exact wakePatternEnd_kept g
  | longLow => exact longLow_kept g
  | longLowTimingStart => exact longLowTimingStart_kept g
  | patternWindowExpiry => exact patternWindowExpiry_kept g

theorem refreshFault_kept (g : Kept s) : Kept s.refreshFault :=
  ⟨g.1.setPins _, g.2.imp id fun n => ⟨n.roll, n.monitors, n.points, n.timer, n.converter⟩⟩

theorem tickClocks_kept (g : Kept s) : Kept s.tickClocks := by
  obtain ⟨-, -, hsearch, hpoints, -⟩ := s.line.tick_standing s.settings
  have hconverter : (s.sequencer.tick s.settings).converter = s.sequencer.converter := by
    unfold Sequencer.tick; split <;> rfl
  obtain ⟨f, e⟩ := g
  exact ⟨⟨f.engine, f.membership, f.restCount, f.longLows, f.line.of_eq hsearch hpoints, f.orders, f.monitors⟩,
    e.imp id fun n => ⟨n.roll, n.monitors, hpoints.trans n.points, n.timer, hconverter.trans n.converter⟩⟩

theorem tick_kept (g : Kept s) : Kept s.tick :=
  State.tick_induction (P := Kept) g (tickClocks_kept g)
    (fun _ ht => ⟨⟨ht.1.engine, ht.1.membership, ht.1.restCount, ht.1.longLows, ht.1.line, ht.1.orders, ht.1.monitors⟩,
      ht.2.imp id fun n => ⟨n.roll, n.monitors, n.points, n.timer, n.converter⟩⟩)
    fun t ht => refreshFault_kept ⟨(scanStage_touches t).fits ht.1, (scanStage_touches t).early ht.2⟩

theorem step_kept {t : State} (g : Counted s) (hstep : step s = .next t) : Kept t := by
  rcases step_cases hstep with ⟨-, rfl⟩ | ⟨rest, ha⟩
  · exact tick_kept ⟨g.fits, g.early⟩
  · have f := g.fits
    have gr : Counted (s.setPending rest) :=
      ⟨g.inOrder, (setPending_standing s rest).lineStands g.stands,
        ⟨f.engine, f.membership, f.restCount, f.longLows, f.line, f.orders, f.monitors⟩,
        g.early.imp id fun n => ⟨n.roll, n.monitors, n.points, n.timer, n.converter⟩⟩
    cases ha with
    | unpowered => exact ⟨gr.fits, gr.early⟩
    | started i => exact refreshFault_kept (started_kept _ i)
    | powerLost c => exact unpowered_kept _ c
    | reacted _ hu => exact refreshFault_kept (reaction_kept gr hu)

end

/-- Settles O60: every reaction keeps each block's counters within their limits, and counts nothing before validation. -/
theorem everyStepKeepsTheCountersInRange : Obligations.EveryStepKeepsTheCountersInRange := by
  intro s t horder hline hcapture hengine hcounters hstep
  obtain ⟨hfits, hearly⟩ := (fits_iff s).2 ⟨hengine, hcounters⟩
  have hinOrder : s.membership.state = .starting ∨ s.membership.state = .withdrawn
      ∨ (s.setup.validated = true ∧ s.store.scanned = true) := by
    simpa [State.startedInOrder, or_assoc] using horder
  exact (fits_iff t).1 (step_kept ⟨hinOrder, (lineStands_iff s).2 ⟨hline, hcapture⟩, hfits, hearly⟩ hstep)

end Sys2Proof.Machine
end

section
/-!
Starts (R1, R24), the state after reset, a stream's word that waited (R147), and the rises and falls of the line at rest (R19,
R23, R182): O3, O55, O27, O54.
-/

namespace Sys2Proof.Machine

/-! ### A start (R1, R24, R43) -/

theorem startMembership_of_number {straps : BitVec 5} (h : straps ≠ 31) :
    (startMembership straps).state = .starting ∧ (startMembership straps).cause = .none := by
  rw [startMembership, if_neg h]
  exact ⟨rfl, rfl⟩

/-- Strapped to 31 the station withdraws for NUMBER (R24). -/
theorem startMembership_of_all_high {straps : BitVec 5} (h : straps = 31) :
    (startMembership straps).state = .withdrawn ∧ (startMembership straps).cause = .number := by
  rw [startMembership, if_pos h]
  exact ⟨rfl, rfl⟩

/-- After a start the membership alone can call for FAULT (R43). -/
theorem started_faultCondition (s : State) (i : StartInputs) :
    (s.started i).faultCondition = ((startMembership i.straps).state == .withdrawn) := by
  simp [State.faultCondition, State.started, State.reset]

/-- Settles O3: the membership by the straps, FAULT by the membership, and every other block as reset leaves it. -/
theorem startPutsEveryBlockAtItsStartValues : Obligations.StartPutsEveryBlockAtItsStartValues := by
  intro i s
  obtain ⟨hlosses, hroll, hroster, hnumber⟩ := startMembership_spec i.straps
  refine ⟨(s.started i).refreshFault, rfl, rfl, rfl, hnumber, fun h => ?named, fun h => ?unnamed, hlosses, hroll, hroster,
    rfl, rfl, rfl, rfl, rfl, rfl, rfl, rfl, rfl, rfl, rfl, rfl, rfl, rfl, rfl⟩
  case named =>
    obtain ⟨hstate, hcause⟩ := startMembership_of_number h
    exact ⟨hstate, hcause, by rw [State.refreshFault_faultLow, started_faultCondition, hstate]; rfl⟩
  case unnamed =>
    obtain ⟨hstate, hcause⟩ := startMembership_of_all_high h
    exact ⟨hstate, hcause, by rw [State.refreshFault_faultLow, started_faultCondition, hstate]; rfl⟩

/-! ### Reset -/

theorem reset_wf : State.reset.wf = true := by decide +kernel

/-- Settles O55, field by field from the state after reset. -/
theorem resetHoldsTheStartValues : Obligations.ResetHoldsTheStartValues := by
  have hroster : ∀ k : Fin 31, State.reset.membership.roster[k] = ⟨false, 0⟩ := by simp [State.reset]
  have hlatest : ∀ i : Input, State.reset.sequencer.latest[i] = none := by simp [State.reset]
  have hmonitors : ∀ i : Fin 8, State.reset.monitors.inputs[i] = ⟨0, true, false⟩ := by simp [State.reset]
  refine ⟨reset_wf, rfl, rfl, rfl, rfl, rfl, rfl, rfl, rfl, rfl, rfl, rfl, rfl, rfl, hroster, rfl, rfl, rfl, rfl, hlatest,
    rfl, hmonitors, ?_⟩
  exact ⟨rfl, rfl, rfl, rfl, rfl, rfl, rfl, rfl, rfl, rfl, rfl, rfl, rfl, rfl, rfl, rfl, rfl, rfl, rfl, rfl, rfl, rfl, rfl,
    rfl, rfl, rfl, rfl, rfl, rfl, rfl, rfl, rfl, rfl, rfl, rfl, rfl, rfl, rfl, rfl, rfl⟩

/-! ### A stream's word that waited (R147) -/

theorem streamWordLoad_of_ready {s : State} {st : Machine.Stream} {v : Word} (hst : s.orders.stream = some st)
    (hr : s.orders.read = .ready v) : s.streamWordLoad
      = s.setOrders { s.orders with outbox := some ⟨if st.atLast then .last else .data, v⟩, read := .none } := by
  simp only [State.streamWordLoad, hst, hr, State.loadStreamWord]

/-- Settles O27: the load of the word read, its stream as it was. -/
theorem streamWordIsLoaded : Obligations.StreamWordIsLoaded := by
  intro st v s hp hst hr
  rw [exec_streamWordLoad hp, streamWordLoad_of_ready hst hr]

/-! ### Rises and falls (R19, R23, R182) -/

section
variable {s : State}

theorem lineRise_of_heldLow (h : s.line.heldLow = true) :
    s.lineRise = s.setLine { s.line with heldLow := false, silence := some Timer.zero } := if_pos h

theorem lineRise_of_not_heldLow (h : s.line.heldLow = false) :
    s.lineRise = s.setLine { s.line with detector := .idle, lowTime := 0 } := if_neg (by simp [h])

theorem longLowTimingStart_of_idle (hr : s.resting = true) (hd : s.line.detector = .idle) :
    s.longLowTimingStart = s.setLine { s.line with detector := .timing, lowTime := 0 } := if_pos (by simp [hr, hd])

theorem patternWindowExpiry_of_window (hr : s.resting = true) (hw : s.rest.window ≠ none) :
    s.patternWindowExpiry = s.setRest { s.rest with longLows := 0, window := none } :=
  if_pos (by simp [hr, Option.isSome_iff_ne_none, hw])

end

/-- Settles O54: a rise by whether a low is held, a fall and the window's end while the station rests. -/
theorem risesFallsAndTheWindow : Obligations.RisesFallsAndTheWindow := by
  refine ⟨fun s hp => ⟨s.lineRise.refreshFault, exec_lineRise hp, ?_⟩, fun s hp hr => ⟨fun hd => ?fall, fun hw => ?window⟩⟩
  · cases hh : s.line.heldLow with
    | true =>
      rw [lineRise_of_heldLow hh]
      exact ⟨fun _ => ⟨rfl, rfl⟩, nofun, rfl, rfl, rfl⟩
    | false =>
      rw [lineRise_of_not_heldLow hh]
      exact ⟨nofun, fun _ => ⟨rfl, rfl⟩, rfl, rfl, rfl⟩
  case fall =>
    refine ⟨_, exec_longLowTimingStart hp, ?_⟩
    rw [longLowTimingStart_of_idle hr hd]
    exact ⟨rfl, rfl, rfl, rfl⟩
  case window =>
    refine ⟨_, exec_patternWindowExpiry hp, ?_⟩
    rw [patternWindowExpiry_of_window hr hw]
    exact ⟨rfl, rfl, rfl, rfl⟩

end Sys2Proof.Machine
end

section
/-!
An idle step (O2): what a tick moves of the slot timing, the timers and the conversion, the durations, and what it leaves.
-/

namespace Sys2Proof.Machine

/-! ### Timers and durations -/

theorem Timer.up_cases (unit limit : Nat) (t : Timer) : (limit ≤ t.count → t.up unit limit = t)
    ∧ (t.count < limit → t.sub + 1 < unit → t.up unit limit = ⟨t.count, t.sub + 1⟩)
    ∧ (t.count < limit → unit ≤ t.sub + 1 → t.up unit limit = ⟨t.count + 1, 0⟩) := by
  unfold Timer.up
  refine ⟨fun h => if_pos h, fun h hs => ?_, fun h hs => ?_⟩
  · rw [if_neg h.not_ge, if_pos hs]
  · rw [if_neg h.not_ge, if_neg hs.not_gt]

theorem Timer.down_cases (unit : Nat) (t : Timer) : (t.count = 0 → t.down unit = t)
    ∧ (t.count ≠ 0 → t.sub + 1 < unit → t.down unit = ⟨t.count, t.sub + 1⟩)
    ∧ (t.count ≠ 0 → unit ≤ t.sub + 1 → t.down unit = ⟨t.count - 1, 0⟩) := by
  unfold Timer.down
  refine ⟨fun h => if_pos h, fun h hs => ?_, fun h hs => ?_⟩
  · rw [if_neg h, if_pos hs]
  · rw [if_neg h, if_neg hs.not_gt]

theorem clockUp_cases (limit n : Nat) : (n < limit → clockUp limit n = n + 1) ∧ (limit ≤ n → clockUp limit n = n) :=
  ⟨fun h => if_pos h, fun h => if_neg h.not_gt⟩

/-- A slot and its quarter at each slot rate (R3). -/
theorem slotUnits_of_rate (st : Settings) : (st.slotRate = 5000 → slotUnits st = 4000 ∧ quarterUnits st = 1000)
    ∧ (st.slotRate = 10000 → slotUnits st = 2000 ∧ quarterUnits st = 500)
    ∧ (st.slotRate = 20000 → slotUnits st = 1000 ∧ quarterUnits st = 250)
    ∧ (st.slotRate = 40000 → slotUnits st = 500 ∧ quarterUnits st = 125) := by
  simp +contextual [slotUnits, quarterUnits]

theorem sampleTime_cases (st : Settings) (i : Input) :
    (∀ h : i.val < 8, sampleTime st i = st.sampleTimes[i.val]) ∧ (8 ≤ i.val → sampleTime st i = 32) :=
  ⟨fun h => dif_pos h, fun h => dif_neg h.not_gt⟩

/-- The input the converter is on, by what it converts for (R44). -/
theorem convertedInput_cases (st : Settings) (q : Sequencer) : (q.converter = .idle → convertedInput st q = none)
    ∧ (q.converter = .survey → (q.pass = none → convertedInput st q = none)
        ∧ ∀ p, q.pass = some p → convertedInput st q = nextEntry st p)
    ∧ (q.converter = .burst → (q.repetition = none → convertedInput st q = none)
        ∧ ∀ r, q.repetition = some r → r.e < st.burst.length → convertedInput st q = st.burst[r.e]?)
    ∧ (q.converter = .sense → ∃ i, convertedInput st q = some i ∧ i.val = st.senseInput.val) := by
  unfold convertedInput
  refine ⟨fun h => by rw [h], fun h => ⟨fun hp => ?_, fun p hp => ?_⟩, fun h => ⟨fun hr => ?_, fun r hr he => ?_⟩,
    fun h => ?_⟩
  · rw [h, hp]; rfl
  · rw [h, hp]; rfl
  · rw [h, hr]; rfl
  · rw [h, hr]
    simp [burstInput, he]
  · rw [h]
    exact ⟨_, rfl, rfl⟩

/-! ### The slot timing (R2, R5, R51) -/

theorem nextBurstPoint_eq_some_iff (density : Nat) (l : Line) (d : Nat) : l.nextBurstPoint density = some d
    ↔ d < density ∧ l.burstPoints ≤ d ∧ l.ahead (burstSlot density d) = true
      ∧ ∀ k, l.burstPoints ≤ k → k < d → l.ahead (burstSlot density k) = false := by
  unfold Line.nextBurstPoint
  rw [List.find?_range_eq_some]
  simp only [Bool.and_eq_true, decide_eq_true_eq, List.mem_range, Bool.not_eq_true', Bool.and_eq_false_iff,
    decide_eq_false_iff_not]
  constructor
  · rintro ⟨⟨hp, ha⟩, hd, hk⟩
    exact ⟨hd, hp, ha, fun k hpk hkd => (hk k hkd).resolve_left (not_not.2 hpk)⟩
  · rintro ⟨hd, hp, ha, hk⟩
    refine ⟨⟨hp, ha⟩, hd, fun k hkd => ?_⟩
    rcases Nat.lt_or_ge k l.burstPoints with h | h
    · exact .inl h.not_ge
    · exact .inr (hk k h hkd)

theorem awaitsCommand_iff (density : Nat) (l : Line) : l.awaitsCommand density = true ↔ (l.round = none ∧ l.position = 0)
    ∨ ∃ o d, l.round = some o ∧ o.captureRound = true ∧ l.nextBurstPoint density = some d
        ∧ 38 * d / density = l.position.val := by
  unfold Line.awaitsCommand
  cases l.round with
  | none => simp
  | some o =>
    cases l.nextBurstPoint density with
    | none => simp
    | some d => simp [burstSlot]

section
variable {quarter density : Nat} {l : Line}

theorem tickPhase_of_awaits (h : l.awaitsCommand density = true) : l.tickPhase quarter density = l := if_pos h

theorem tickPhase_within (h : l.awaitsCommand density = false) (ht : l.phaseTime + 1 < quarter) :
    l.tickPhase quarter density = { l with phaseTime := l.phaseTime + 1 } := by
  rw [Line.tickPhase, if_neg (by simp [h]), if_pos ht]

theorem tickPhase_quarter (h : l.awaitsCommand density = false) (ht : quarter ≤ l.phaseTime + 1) (hp : l.phase ≠ .q4) :
    l.tickPhase quarter density = { l with phase := Quarter.next l.phase, phaseTime := 0 } := by
  rw [Line.tickPhase, if_neg (by simp [h]), if_neg ht.not_gt, if_pos hp]

theorem tickPhase_slot (h : l.awaitsCommand density = false) (ht : quarter ≤ l.phaseTime + 1) (hp : l.phase = .q4)
    (hs : l.position ≠ 37) :
    l.tickPhase quarter density = { l with phase := .q1, phaseTime := 0, position := l.position + 1 } := by
  rw [Line.tickPhase, if_neg (by simp [h]), if_neg ht.not_gt, if_neg (by simp [hp]), if_neg hs]

theorem tickPhase_end (h : l.awaitsCommand density = false) (ht : quarter ≤ l.phaseTime + 1) (hp : l.phase = .q4)
    (hs : l.position = 37) : l.tickPhase quarter density = l := by
  rw [Line.tickPhase, if_neg (by simp [h]), if_neg ht.not_gt, if_neg (by simp [hp]), if_pos hs]

/-- The next slot, up to slot 37 (R5). -/
theorem next_slot_val {p : Fin 38} (h : p ≠ 37) : (p + 1).val = p.val + 1 := by
  have hlt : p.val < 37 := by
    have := Fin.val_ne_of_ne h
    have := p.isLt
    omega
  rw [Fin.val_add]
  exact Nat.mod_eq_of_lt (by omega)

end

/-- The slot timing of a line, its timers left out. -/
structure SlotTiming where
  position : Fin 38
  phase : Quarter
  phaseTime : Nat

/-- Where a line's slot timing stands. -/
def Line.timing (l : Line) : SlotTiming := ⟨l.position, l.phase, l.phaseTime⟩

theorem tickTimers_timing (l : Line) (slot : Nat) : (l.tickTimers slot).timing = l.timing := rfl

theorem tickTimers_awaitsCommand (l : Line) (slot density : Nat) :
    (l.tickTimers slot).awaitsCommand density = l.awaitsCommand density := rfl

section
variable {st : Settings} {l : Line}

/-- Off the line, or before a command, the slot timing stands. -/
theorem tick_timing_stands (h : l.align ≠ .aligned ∨ l.awaitsCommand st.density = true) :
    (l.tick st).timing = l.timing := by
  unfold Line.tick
  simp only
  split
  next ha =>
    have hw : (l.tickTimers (slotUnits st)).awaitsCommand st.density = true := h.resolve_left (not_not.2 ha)
    rw [tickPhase_of_awaits hw, tickTimers_timing]
  next => rfl

theorem tick_aligned (ha : l.align = .aligned) :
    l.tick st = (l.tickTimers (slotUnits st)).tickPhase (quarterUnits st) st.density := if_pos ha

/-- The slot timing of an ALIGNED station that waits for no command, by the time in the quarter, the quarter and the slot. -/
theorem tick_timing_moves (ha : l.align = .aligned) (hw : l.awaitsCommand st.density = false) :
    (l.phaseTime + 1 < quarterUnits st → (l.tick st).timing = ⟨l.position, l.phase, l.phaseTime + 1⟩)
    ∧ (quarterUnits st ≤ l.phaseTime + 1 →
      (l.phase ≠ .q4 → (l.tick st).timing = ⟨l.position, Quarter.next l.phase, 0⟩)
      ∧ (l.phase = .q4 → l.position ≠ 37 → (l.tick st).timing = ⟨l.position + 1, .q1, 0⟩)
      ∧ (l.phase = .q4 → l.position = 37 → (l.tick st).timing = l.timing)) := by
  rw [tick_aligned ha]
  rw [← tickTimers_awaitsCommand l (slotUnits st)] at hw
  refine ⟨fun ht => ?_, fun ht => ⟨fun hp => ?_, fun hp hs => ?_, fun hp hs => ?_⟩⟩
  · rw [tickPhase_within hw ht]; rfl
  · rw [tickPhase_quarter hw ht hp]; rfl
  · rw [tickPhase_slot hw ht hp hs]; rfl
  · rw [tickPhase_end hw ht hp hs]; rfl

/-- The slot timing's part of a tick leaves the timers. -/
theorem tickPhase_timers (quarter density : Nat) (l : Line) : (l.tickPhase quarter density).silence = l.silence
    ∧ (l.tickPhase quarter density).backoff = l.backoff ∧ (l.tickPhase quarter density).lowTime = l.lowTime
    ∧ (l.tickPhase quarter density).pattern = l.pattern := by
  unfold Line.tickPhase
  split_ifs <;> exact ⟨rfl, rfl, rfl, rfl⟩

/-- The timers of the Line Interface (R18, R19, R22, R23). -/
theorem tick_timers (st : Settings) (l : Line) :
    (l.tick st).silence = l.silence.map (Timer.up (slotUnits st) 76)
    ∧ (l.tick st).backoff = l.backoff.map (Timer.down (slotUnits st))
    ∧ (l.tick st).lowTime = (if l.detector = .timing then clockUp 8000 l.lowTime else l.lowTime)
    ∧ (l.tick st).pattern = l.pattern.map (clockUp 100000) := by
  unfold Line.tick
  simp only
  split
  · obtain ⟨hsilence, hbackoff, hlow, hpattern⟩ :=
      tickPhase_timers (quarterUnits st) st.density (l.tickTimers (slotUnits st))
    exact ⟨hsilence, hbackoff, hlow, hpattern⟩
  · exact ⟨rfl, rfl, rfl, rfl⟩

theorem Sequencer.tick_cases (st : Settings) (q : Sequencer) :
    (∀ i, convertedInput st q = some i →
      q.tick st = { q with elapsed := clockUp ((sampleTime st i + 12) * 20) q.elapsed })
    ∧ (convertedInput st q = none → q.tick st = q) := by
  unfold Sequencer.tick
  exact ⟨fun i h => by rw [h]; rfl, fun h => by rw [h]⟩

theorem Sequencer.tick_eq (st : Settings) (q : Sequencer) : q.tick st = { q with elapsed := (q.tick st).elapsed } := by
  unfold Sequencer.tick
  split <;> rfl

end

/-! ### The station in an idle step -/

/-- The scan's part of a tick leaves all but the store and what a take can touch. -/
structure ScanTickKeeps (s t : State) : Prop where
  powered : t.powered = s.powered
  straps : t.pins.straps = s.pins.straps
  alertLow : t.pins.alertLow = s.pins.alertLow
  alertPulse : t.pins.alertPulse = s.pins.alertPulse
  line : t.line = s.line
  membership : t.membership = s.membership
  sequencer : t.sequencer = s.sequencer
  monitors : t.monitors = s.monitors
  ring : t.ring = s.ring
  engine : t.engine = s.engine
  lock : t.lock = s.lock
  settings : t.settings = s.settings
  setupFault : t.setup.fault = s.setup.fault
  validated : t.setup.validated = s.setup.validated
  rest : t.rest = s.rest
  pending : t.pending = s.pending
  scanned : t.store.scanned = s.store.scanned

theorem tickScan_keeps (s : State) : ScanTickKeeps s s.tickScan := by
  rcases s.tickScan_cases with h | h | h <;> rw [h]
  · constructor <;> rfl
  · constructor <;> rfl
  · have k := scanStage_touches s
    have hstraps : s.scanStage.pins.straps = s.pins.straps := congrArg Pins.straps k.pins
    have hlow : s.scanStage.pins.alertLow = s.pins.alertLow := congrArg Pins.alertLow k.pins
    have hpulse : s.scanStage.pins.alertPulse = s.pins.alertPulse := congrArg Pins.alertPulse k.pins
    exact ⟨k.powered, hstraps, hlow, hpulse, k.line,
      k.membership, k.sequencer, k.monitors, k.ring, k.engine, k.lock, k.settings, k.setupFault, k.validated, k.rest,
      k.pending, k.scanned⟩

theorem step_idle {s : State} (hq : s.pending = []) : step s = .next s.tick := by
  simp only [step, hq]

theorem tick_powered {s : State} (hp : s.powered = true) : s.tick = s.tickClocks.tickScan := if_pos hp

/-- Once all is read, or a word is read of a stage that has more, the store alone can count a word, and the clocks have
moved. -/
theorem tick_between_stages {s : State} (hp : s.powered = true) :
    (s.store.scanned = true ∨ s.store.scan.stage = .decide → s.tick = s.tickClocks)
    ∧ (s.store.scanned = false → s.store.scan.stage ≠ .decide →
      s.store.scan.read + 1 < scanWords s.arrays s.store.scan.stage →
        s.tick = s.tickClocks.setStore s.store.countRead)
    ∧ (s.store.scanned = false → s.store.scan.stage ≠ .decide →
      scanWords s.arrays s.store.scan.stage ≤ s.store.scan.read + 1 → s.tick = s.tickClocks.scanStage.refreshFault) := by
  rw [tick_powered hp]
  exact ⟨fun h => State.tickScan_of_done h, fun hs hg hr => State.tickScan_of_more hs hg hr,
    fun hs hg hr => State.tickScan_of_last hs hg hr⟩

theorem tick_programmer_elapsed {s : State} (hp : s.powered = true) (h : s.store.scanned = true
      ∨ s.store.scan.stage = .decide ∨ s.store.scan.read + 1 < scanWords s.arrays s.store.scan.stage) :
    s.tick.programmer.elapsed = clockUp (operationUnits s.programmer.op) s.programmer.elapsed := by
  obtain ⟨hdone, hmore, -⟩ := tick_between_stages hp
  by_cases hd : s.store.scanned = true ∨ s.store.scan.stage = .decide
  · rw [hdone hd]; rfl
  · obtain ⟨hs, hg⟩ := not_or.1 hd
    have hr := (h.resolve_left hs).resolve_left hg
    rw [hmore (Bool.not_eq_true _ ▸ hs) hg hr]
    rfl

/-- Settles O2: an idle step is a tick, whose clocks and scan are spelled out above. -/
theorem idleStepMovesOnlyClocks : Obligations.IdleStepMovesOnlyClocks := by
  refine ⟨fun s hq hp => ?dark, fun s hq hp => ⟨s.tick, step_idle hq, ?frame⟩, fun s hq hp => ⟨s.tick, step_idle hq, ?moves⟩,
    awaitsCommand_iff, fun unit limit t => ?timers, clockUp_cases, slotUnits_of_rate, fun _ => rfl, fun _ _ _ _ => rfl,
    fun _ _ => rfl, fun _ _ => rfl, sampleTime_cases, convertedInput_cases, nextBurstPoint_eq_some_iff⟩
  case dark => rw [step_idle hq, State.tick, if_neg (by simp [hp])]
  case timers =>
    obtain ⟨h1, h2, h3⟩ := Timer.up_cases unit limit t
    exact ⟨h1, h2, h3, Timer.down_cases unit t⟩
  case frame =>
    obtain ⟨hdone, hmore, hlast⟩ := tick_between_stages hp
    obtain ⟨halign, hround, hsearch, hpoints, hcount, hdetector, hheld⟩ := s.line.tick_standing s.settings
    have k := tickScan_keeps s.tickClocks
    rw [← tick_powered hp] at k
    rw [k.powered, k.pending, k.membership, k.monitors, k.ring, k.engine, k.lock, k.settings, k.setupFault, k.validated,
      k.scanned, k.straps, k.alertLow, k.line, k.sequencer, k.rest]
    refine ⟨hp, hq, rfl, rfl, rfl, rfl, rfl, rfl, rfl, rfl, rfl, rfl, rfl, halign, hround, hcount, hsearch, hdetector,
      hpoints, hheld, Sequencer.tick_eq _ _, rfl, rfl, rfl, fun h => ?_, fun hs hg hr => ?_, fun hs hg hr => ?_⟩
    · rw [hdone h]
      exact ⟨rfl, rfl, rfl, rfl, rfl, rfl, rfl⟩
    · rw [hmore hs hg hr]
      exact ⟨rfl, rfl, rfl, rfl, rfl, rfl, rfl⟩
    · exact ⟨s.tickClocks, hlast hs hg hr, rfl, rfl, rfl, rfl, rfl, rfl⟩
  case moves =>
    have k := tickScan_keeps s.tickClocks
    rw [← tick_powered hp] at k
    obtain ⟨hsilence, hbackoff, hlow, hpattern⟩ := tick_timers s.settings s.line
    obtain ⟨hconverts, hrests⟩ := Sequencer.tick_cases s.settings s.sequencer
    rw [k.line, k.sequencer, k.rest, k.alertPulse]
    refine ⟨fun h => ?stands, fun ha hw => ?timing, hsilence, hbackoff, hlow, hpattern,
      fun i hi => congrArg Sequencer.elapsed (hconverts i hi), fun hn => congrArg Sequencer.elapsed (hrests hn),
      tick_programmer_elapsed hp, rfl, rfl, rfl, rfl⟩
    case stands =>
      have h := tick_timing_stands h
      exact ⟨congrArg SlotTiming.position h, congrArg SlotTiming.phase h, congrArg SlotTiming.phaseTime h⟩
    case timing =>
      obtain ⟨hwithin, hpast⟩ := tick_timing_moves ha hw
      refine ⟨fun ht => ?_, fun ht => ⟨fun hq4 => ?_, fun hq4 hs => ?_, fun hq4 hs => ?_⟩⟩
      · have h := hwithin ht
        exact ⟨congrArg SlotTiming.phaseTime h, congrArg SlotTiming.phase h, congrArg SlotTiming.position h⟩
      · have h := (hpast ht).1 hq4
        exact ⟨congrArg SlotTiming.phase h, congrArg SlotTiming.phaseTime h, congrArg SlotTiming.position h⟩
      · have h := (hpast ht).2.1 hq4 hs
        exact ⟨congrArg SlotTiming.phase h, congrArg SlotTiming.phaseTime h,
          (congrArg (fun x : SlotTiming => x.position.val) h).trans (next_slot_val hs)⟩
      · have h := (hpast ht).2.2 hq4 hs
        exact ⟨(congrArg SlotTiming.phase h).trans hq4, congrArg SlotTiming.phaseTime h,
          (congrArg SlotTiming.position h).trans hs⟩

end Sys2Proof.Machine
end

section
/-!
The loss of the supply and its cut (O4): what a cut leaves of the arrays, by the operation it cuts off.
-/

namespace Sys2Proof.Machine

section
variable (m : Arrays) (c : Cut)

theorem cutOff_word (w : WordOp) : m.cutOff (.word w) c = m.setBank w.bank (cutWord (m.bank w.bank) w c) := rfl

theorem cutOff_bankErase (b : BankId) (h : Word) :
    m.cutOff (.bankErase b h) c = m.setBank b (cutErase (m.bank b) h c) := rfl

theorem cutOff_fourth_pulse (i : Nat) (v : Word) (owed : Bool) : m.cutOff (.pulse (.program i v 4 owed)) c
    = { m with setup := nvProgram Config.setupWords m.setup i v c.bits } := rfl

theorem cutOff_eighth_pulse (owed : Bool) : m.cutOff (.pulse (.erase 8 owed)) c
    = { m with setup := nvErase m.setup c.unset } := rfl

variable {m}

/-- A word program cut off changes no word but its own (R113, R134). -/
theorem nvRead_cutOff_word_other (hwf : m.wf = true) {w : WordOp} (ha : w.address < Config.bankWords) {b : BankId} {a : Nat}
    (hne : b ≠ w.bank ∨ a ≠ w.address) : nvRead ((m.cutOff (.word w) c).bank b) a = nvRead (m.bank b) a := by
  rw [cutOff_word, Arrays.bank_setBank]
  by_cases hb : b = w.bank
  · rw [if_pos hb, nvRead_cutWord (nvWf_rising (Arrays.wf_bank hwf _)) ha, if_neg (hne.resolve_left (not_not.2 hb)), hb]
  · rw [if_neg hb]

theorem nvRead_cutOff_word_self (hwf : m.wf = true) {w : WordOp} (ha : w.address < Config.bankWords) :
    nvRead ((m.cutOff (.word w) c).bank w.bank) w.address = if w.purpose = .header ∧ c.headerDirty then 0
      else nvRead (m.bank w.bank) w.address &&& (w.value ||| c.bits) := by
  rw [cutOff_word, Arrays.bank_setBank_self, nvRead_cutWord (nvWf_rising (Arrays.wf_bank hwf _)) ha, if_pos rfl]

theorem nvRead_cutOff_bankErase (hwf : m.wf = true) (b : BankId) (h : Word) (a : Nat) :
    nvRead ((m.cutOff (.bankErase b h) c).bank b) a =
      if a = 0 then (if c.condemning then h &&& c.bits else if c.headerErased then erasedWord else 0)
      else if c.condemning then nvRead (m.bank b) a
      else nvRead (m.bank b) a ||| ~~~(maskAt c.unset a) := by
  rw [cutOff_bankErase, Arrays.bank_setBank_self, nvRead_cutErase (nvWf_rising (Arrays.wf_bank hwf _))]

end

/-! ### A header write cut off as a bank opens (R116, R134) -/

/-- A program of word 0 of an erased bank writes the value with what the cut did not clear. -/
theorem nvProgram_erased (v missed : Word) :
    nvProgram Config.bankWords [] 0 v missed = if v ||| missed = erasedWord then [] else [(0, v ||| missed)] := by
  have hones : erasedWord &&& (v ||| missed) = v ||| missed := BitVec.allOnes_and
  show (if erasedWord &&& (v ||| missed) = erasedWord then [] else [(0, erasedWord &&& (v ||| missed))]) = _
  rw [hones]

theorem classifyBank_one_word {v : Word} (h0 : v ≠ 0) (hones : v ≠ erasedWord) :
    classifyBank [(0, v)] = .sequence v := by
  have hread : nvRead [(0, v)] 0 = v := rfl
  rw [classifyBank, hread, if_neg (by simp), if_neg (not_or.2 ⟨hones, h0⟩)]

section
variable {m : Arrays} {w : WordOp} {c : Cut}

theorem cutOff_header_dirty (hw : w.purpose = .header) (ha : w.address = 0) (hm : m.bank w.bank = [])
    (hc : c.headerDirty = true) : (m.cutOff (.word w) c).bank w.bank = [(0, 0)] := by
  rw [cutOff_word, Arrays.bank_setBank_self, cutWord, if_pos ⟨hw, hc⟩, hm, ha]
  rfl

theorem cutOff_header_written (ha : w.address = 0) (hm : m.bank w.bank = []) (hc : c.headerDirty = false) :
    (m.cutOff (.word w) c).bank w.bank
      = if w.value ||| c.bits = erasedWord then [] else [(0, w.value ||| c.bits)] := by
  rw [cutOff_word, Arrays.bank_setBank_self, cutWord, if_neg (by simp [hc]), hm, ha, nvProgram_erased]

/-- The header written reads FRESH when no bit was cleared, and a sequence value else: a nonzero value stays nonzero. -/
theorem classifyBank_cutOff_header (ha : w.address = 0) (hm : m.bank w.bank = []) (h0 : w.value ≠ 0)
    (hc : c.headerDirty = false) : classifyBank ((m.cutOff (.word w) c).bank w.bank)
      = if w.value ||| c.bits = erasedWord then .fresh else .sequence (w.value ||| c.bits) := by
  rw [cutOff_header_written ha hm hc]
  have hne : w.value ||| c.bits ≠ 0 := fun h => h0 (BitVec.or_eq_zero_iff.1 h).1
  by_cases hones : w.value ||| c.bits = erasedWord
  · rw [if_pos hones, if_pos hones]; rfl
  · rw [if_neg hones, if_neg hones, classifyBank_one_word hne hones]

end

/-- Settles O4: the state is all start values but the arrays, and what the cut left of those is read off per operation. -/
theorem powerLossAndItsCut : Obligations.PowerLossAndItsCut := by
  refine ⟨fun c s => ⟨s.unpowered c, rfl, rfl, rfl, rfl, rfl, rfl, rfl⟩, fun m w c hwf ha => ?word,
    fun m w hw ha hm h0 hones => ?header, fun m c => ⟨rfl, fun i v k owed hk => if_neg hk, fun k owed hk => if_neg hk⟩,
    fun m c hwf => ⟨fun i v owed hi => ?fourth, fun owed => ?eighth, fun b h => ?erase⟩⟩
  case word =>
    have hself := nvRead_cutOff_word_self c hwf ha
    refine ⟨fun b a => nvRead_cutOff_word_other c hwf ha, Arrays.setBank_setup _ _ _, fun hn => ?_, fun hw hc => ?_⟩
    · rw [hself, if_neg fun h => hn.elim (· h.1) (by simp [h.2])]
    · rw [hself, if_pos ⟨hw, hc⟩]
  case header =>
    have hwritten (c : Cut) := classifyBank_cutOff_header (c := c) ha hm h0
    refine ⟨fun c hc => ?dirty, fun c hc => ?either, ⟨⟨0xFFFF, false, false, [], false⟩, ?fresh⟩,
      ⟨⟨0, false, false, [], false⟩, ?value⟩⟩
    case dirty => exact congrArg classifyBank (cutOff_header_dirty hw ha hm hc)
    case either =>
      by_cases h : w.value ||| c.bits = erasedWord
      · exact .inl ((hwritten c hc).trans (if_pos h))
      · exact .inr ⟨_, (hwritten c hc).trans (if_neg h)⟩
    case fresh => exact (hwritten _ rfl).trans (if_pos BitVec.or_allOnes)
    case value =>
      have hbits : w.value ||| (0 : Word) = w.value := BitVec.or_zero
      have hvalue := hwritten ⟨0, false, false, [], false⟩ rfl
      rw [hbits] at hvalue
      exact hvalue.trans (if_neg hones)
  case fourth =>
    have hread := nvRead_nvProgram (nvWf_rising ((Arrays.wf_iff m).1 hwf).2.2) hi v c.bits
    rw [cutOff_fourth_pulse]
    refine ⟨rfl, rfl, ?_, fun a ha => ?_⟩
    · rw [hread, if_pos rfl]; rfl
    · rw [hread, if_neg ha]
  case eighth =>
    rw [cutOff_eighth_pulse]
    exact ⟨rfl, rfl, fun a => nvRead_nvErase (nvWf_rising ((Arrays.wf_iff m).1 hwf).2.2) c.unset a⟩
  case erase =>
    have hread := nvRead_cutOff_bankErase c hwf b h
    refine ⟨Arrays.bank_setBank_other _ _ _, Arrays.setBank_setup _ _ _, fun hc => ⟨?_, fun a ha => ?_⟩,
      fun hc => ⟨?_, fun a ha => ?_⟩⟩
    · rw [hread, if_pos rfl, if_pos hc]
    · rw [hread, if_neg ha, if_pos hc]
    · rw [hread, if_pos rfl, if_neg (by simp [hc])]; rfl
    · rw [hread, if_neg ha, if_neg (by simp [hc])]

end Sys2Proof.Machine
end

section
/-!
Setup validation (O5): the check and the range checks word by word, the settings a block in range holds, and the end of
STARTING that validation and scan share.
-/

namespace Sys2Proof.Machine

/-! ### The end of STARTING -/

section
variable (s : State)

theorem leaveStarting_keeps : s.leaveStarting.arrays = s.arrays ∧ s.leaveStarting.store = s.store
    ∧ s.leaveStarting.orders = s.orders ∧ s.leaveStarting.setup = s.setup
    ∧ s.leaveStarting.programmer = s.programmer ∧ s.leaveStarting.engine = s.engine := by
  unfold State.leaveStarting
  split <;> exact ⟨rfl, rfl, rfl, rfl, rfl, rfl⟩

variable {s}

theorem leaveStarting_of_ended (hm : s.membership.state = .starting) (hv : s.setup.validated = true)
    (hs : s.store.scanned = true) :
    s.leaveStarting.membership.state = .seeking ∧ s.leaveStarting.line.silence = some Timer.zero := by
  rw [State.leaveStarting, if_pos ⟨hm, hv, hs⟩]
  exact ⟨rfl, rfl⟩

theorem leaveStarting_of_waits (h : s.setup.validated = false ∨ s.store.scanned = false) : s.leaveStarting = s := by
  rw [State.leaveStarting, if_neg]
  rintro ⟨-, hv, hs⟩
  simp [hv, hs] at h

end

/-! ### Fields of setup words -/

theorem field_lt (w : Word) (lo n : Nat) : field w lo n < 2 ^ n := BitVec.isLt _

/-- A field of one bit reads 0 when the bit is cleared. -/
theorem field_one_eq_zero_iff (w : Word) (i : Nat) : field w i 1 = 0 ↔ w.getLsbD i = false := by
  rw [field, BitVec.extractLsb'_toNat, BitVec.getLsbD, Nat.testBit_eq_decide_div_mod_eq, Nat.shiftRight_eq_div_pow]
  simp

theorem field_one_eq_one_iff (w : Word) (i : Nat) : field w i 1 = 1 ↔ w.getLsbD i = true := by
  rw [field, BitVec.extractLsb'_toNat, BitVec.getLsbD, Nat.testBit_eq_decide_div_mod_eq, Nat.shiftRight_eq_div_pow]
  simp

/-- A setting that one bit codes. -/
theorem coded_bit_iff {α : Type} {a b : α} (hne : a ≠ b) (w : Word) (i : Nat) :
    (if w.getLsbD i = true then a else b) = b ↔ field w i 1 = 0 := by
  rw [field_one_eq_zero_iff]
  by_cases hbit : w.getLsbD i = true
  · rw [if_pos hbit, hbit]; simp [hne]
  · rw [if_neg hbit]; simp [Bool.not_eq_true _ ▸ hbit]

/-- A code of two bits picks its entry (R190). -/
theorem getElem?_coded {α : Type} {c : Nat} (h : c < 4) (v0 v1 v2 v3 : α) :
    [v0, v1, v2, v3][c]? = some (coded c v0 v1 v2 v3) := by
  interval_cases c <;> rfl

/-- A code of two bits that is not 3 picks among three. -/
theorem getElem?_coded_three {α : Type} {c : Nat} (h : c < 3) (v0 v1 v2 v3 : α) :
    [v0, v1, v2][c]? = some (coded c v0 v1 v2 v3) := by
  interval_cases c <;> rfl

theorem inputOfCode_val {c : Nat} (h : c < 10) : (inputOfCode c).val = c := by
  rw [inputOfCode, dif_pos h]

section
variable (r : Nat → Word)

/-- Even survey entries stand in bits 15 to 12 of their words, odd ones in bits 11 to 8 (R190). -/
theorem surveyEntryCode_even (k : Nat) : surveyEntryCode r (2 * k) = field (r (3 + k)) 12 4 := by
  rw [surveyEntryCode, Nat.mul_div_cancel_left k (by decide), Nat.mul_mod_right]

theorem surveyEntryCode_odd (k : Nat) : surveyEntryCode r (2 * k + 1) = field (r (3 + k)) 8 4 := by
  rw [surveyEntryCode, Nat.mul_add_mod, show (2 * k + 1) / 2 = k by omega]

theorem surveyEntries_iff (n : Nat) : (∀ k, k < n → surveyEntryCode r k < 10)
    ↔ (∀ k, 2 * k < n → field (r (3 + k)) 12 4 < 10) ∧ ∀ k, 2 * k + 1 < n → field (r (3 + k)) 8 4 < 10 := by
  constructor
  · intro h
    exact ⟨fun k hk => surveyEntryCode_even r k ▸ h _ hk, fun k hk => surveyEntryCode_odd r k ▸ h _ hk⟩
  · rintro ⟨heven, hodd⟩ k hk
    rcases Nat.even_or_odd' k with ⟨j, rfl | rfl⟩
    · exact surveyEntryCode_even r j ▸ heven j hk
    · exact surveyEntryCode_odd r j ▸ hodd j hk

/-- The range checks (R167). -/
theorem inRange_iff : inRange r = true ↔ 1 ≤ storedN r ∧ storedN r ≤ 12 ∧ 1 ≤ storedS r ∧ storedS r ≤ storedN r
    ∧ field (r 2) 8 2 ≠ 3 ∧ (∀ k, k < storedN r → surveyEntryCode r k < 10)
    ∧ (∀ k, k ≤ field (r 2) 10 2 → burstEntryCode r k < 10)
    ∧ (∀ i, i < 8 → (storedWindow r i).low.toNat ≤ (storedWindow r i).high.toNat) ∧ storedSense r < 8 := by
  simp only [inRange, Bool.and_eq_true, decide_eq_true_eq, List.all_eq_true, List.mem_range, and_assoc, storedB,
    Nat.lt_succ_iff, BitVec.le_def]

end

/-! ### Validation -/

theorem setupCheckGood_iff {m : Nv} (h : nvWf Config.setupWords m = true) : setupCheckGood m = true
    ↔ (∃ k, k < 31 ∧ nvRead m k ≠ 0xFFFF) ∧ crc16 ((List.range 30).map (nvRead m)) = nvRead m 30 := by
  have hwritten : m ≠ [] ↔ ∃ k, k < 31 ∧ nvRead m k ≠ 0xFFFF := by
    rw [Ne, nvWf_eq_nil_iff h]
    push Not
    exact Iff.rfl
  rw [setupCheckGood, Bool.and_eq_true, bne_iff_ne, beq_iff_eq, hwritten]

section
variable {m : Nv}

theorem validateSetup_of_bad_check (h : setupCheckGood m = false) :
    validateSetup m = (defaultSettings openKey, .check) := if_neg (by simp [h])

theorem validateSetup_of_out_of_range (h : setupCheckGood m = true) (hr : inRange (nvRead m) = false) :
    validateSetup m = (defaultSettings (storedKey (nvRead m)), .range) :=
  (if_pos h).trans (if_neg (by simp [hr]))

theorem validateSetup_of_good (h : setupCheckGood m = true) (hr : inRange (nvRead m) = true) :
    validateSetup m = (storedSettings (nvRead m), .none) := (if_pos h).trans (if_pos hr)

end

/-- Setup validation up to the end of STARTING. -/
def State.validatedSetup (s : State) : State :=
  s.setSetup { s.setup with
    working := (validateSetup s.arrays.setup).1, fault := (validateSetup s.arrays.setup).2, validated := true }

theorem setupValidation_eq {s : State} (h : s.setup.validated = false) :
    s.setupValidation = s.validatedSetup.leaveStarting := if_neg (by simp [h])

theorem faultCondition_of_setupFault {s : State} (h : s.setup.fault ≠ .none) : s.faultCondition = true := by
  simp [State.faultCondition, h]

/-- The settings a block in range holds, each field coded as the layout gives it (R190). -/
theorem storedSettings_fields {r : Nat → Word} (h : inRange r = true) :
    let st := storedSettings r
    (∀ k, k < storedN r → st.survey[k]?.map Fin.val = some (surveyEntryCode r k))
    ∧ (∀ k, k ≤ field (r 2) 10 2 → st.burst[k]?.map Fin.val = some (burstEntryCode r k))
    ∧ st.senseInput.val = storedSense r := by
  obtain ⟨-, -, -, -, -, hsurvey, hburst, -, hsense⟩ := (inRange_iff r).1 h
  refine ⟨fun k hk => ?_, fun k hk => ?_, ?_⟩
  · have hentry : (List.range (storedN r))[k]? = some k := List.getElem?_range hk
    simp [storedSettings, hentry, inputOfCode_val (hsurvey k hk)]
  · have hentry : (List.range (storedB r))[k]? = some k := List.getElem?_range (Nat.lt_succ_of_le hk)
    simp [storedSettings, hentry, inputOfCode_val (hburst k hk)]
  · simp [storedSettings, hsense]

/-- Settles O5: the check, the ranges and the settings by the lemmas above, the end of STARTING by the scan's end. -/
theorem validationFormsTheWorkingCopy : Obligations.ValidationFormsTheWorkingCopy := by
  refine ⟨fun s hp hv => ⟨_, exec_setupValidation hp, ?state⟩, fun m => setupCheckGood_iff,
    fun r => ⟨?range, fun h => ?fields, rfl⟩, rfl, fun _ => rfl⟩
  case state =>
    obtain ⟨harrays, hstore, horders, hsetup, -, -⟩ := leaveStarting_keeps s.validatedSetup
    have hformed {v : Settings × SetupFault} (h : validateSetup s.arrays.setup = v) :
        s.validatedSetup.leaveStarting.settings = v.1 ∧ s.validatedSetup.leaveStarting.setup.fault = v.2 := by
      rw [State.settings, hsetup, ← h]
      exact ⟨rfl, rfl⟩
    rw [setupValidation_eq hv]
    refine ⟨congrArg Setup.validated hsetup, harrays, hstore, horders, fun hc => hformed (validateSetup_of_bad_check hc),
      fun hc hr => hformed (validateSetup_of_out_of_range hc hr), fun hc hr => hformed (validateSetup_of_good hc hr),
      fun hf => faultCondition_of_setupFault hf, fun hm hs => leaveStarting_of_ended hm rfl hs, fun hm hs => ?_⟩
    have hwaits : s.validatedSetup.leaveStarting = s.validatedSetup := leaveStarting_of_waits (.inr hs)
    exact (congrArg (fun t : State => t.membership.state) hwaits).trans hm
  case range =>
    rw [inRange_iff]
    constructor
    · rintro ⟨hn, hn', hs, hs', hd, hsurvey, hburst, hwindows, hsense⟩
      obtain ⟨heven, hodd⟩ := (surveyEntries_iff r _).1 hsurvey
      exact ⟨hn, hn', hs, hs', hd, heven, hodd, hburst, hwindows, hsense⟩
    · rintro ⟨hn, hn', hs, hs', hd, heven, hodd, hburst, hwindows, hsense⟩
      exact ⟨hn, hn', hs, hs', hd, (surveyEntries_iff r _).2 ⟨heven, hodd⟩, hburst, hwindows, hsense⟩
  case fields =>
    obtain ⟨hsurvey, hburst, hsense⟩ := storedSettings_fields h
    have htwo (w : Word) (lo : Nat) : field w lo 2 < 4 := field_lt w lo 2
    have hdensity : field (r 2) 8 2 < 3 := by
      obtain ⟨-, -, -, -, hd, -⟩ := (inRange_iff r).1 h
      have := htwo (r 2) 8
      omega
    refine ⟨getElem?_coded (htwo _ _) _ _ _ _, getElem?_coded (htwo _ _) _ _ _ _, ?policy, ?dormancy, ?wake, ?pin,
      getElem?_coded (htwo _ _) _ _ _ _, ?length, fun k hk => ?even, fun k hk => ?odd, rfl, rfl, rfl, rfl, ?burstLength, hburst,
      getElem?_coded_three hdensity _ _ _ _, hsense, getElem?_coded (htwo _ _) _ _ _ _, getElem?_coded (htwo _ _) _ _ _ _,
      fun i => ?windows, fun i => ?times, rfl⟩
    case policy => exact coded_bit_iff (by decide) (r 0) 11
    case dormancy => exact Iff.trans (Bool.not_eq_true' _ ▸ Iff.rfl) (field_one_eq_zero_iff (r 0) 10).symm
    case wake => exact (field_one_eq_one_iff (r 0) 9).symm
    case pin => exact coded_bit_iff (by decide) (r 0) 8
    case length => exact (List.length_map _).trans List.length_range
    case even => exact (hsurvey _ hk).trans (congrArg some (surveyEntryCode_even r k))
    case odd => exact (hsurvey _ hk).trans (congrArg some (surveyEntryCode_odd r k))
    case burstLength => exact (List.length_map _).trans List.length_range
    case windows => exact Vector.getElem_ofFn i.isLt
    case times =>
      have htime : (storedSettings r).sampleTimes[i] = coded (field (r 26) (14 - 2 * i.val) 2) 4 8 16 32 :=
        Vector.getElem_ofFn i.isLt
      rw [htime]
      exact getElem?_coded (htwo _ _) _ _ _ _

end Sys2Proof.Machine
end

section
/-!
The start-up scan (O6): a bank's classification, one position of a walk, the end that decides the bank states and NEXT, and
the tables the scan reads by.
-/

namespace Sys2Proof.Machine

/-! ### The tables of the scan (R116, R119, R138, R187) -/

section
variable (w : Word)

/-- The states a written state word gives, by the bits 0 to 3 that are cleared (R119, R187). -/
theorem recordState_written {w : Word} (h : w ≠ 0xFFFF) :
    recordState w = if w.getLsbD 0 then .stray else if !w.getLsbD 3 then .void else if w.getLsbD 1 then .started
      else if w.getLsbD 2 then .complete else .read := if_neg h

theorem recordState_free_iff : recordState w = .free ↔ w = 0xFFFF := by
  refine ⟨fun h => ?_, fun h => if_pos h⟩
  by_contra hw
  rw [recordState_written hw] at h
  split_ifs at h

theorem recordState_stray_iff : recordState w = .stray ↔ w ≠ 0xFFFF ∧ w.getLsbD 0 = true := by
  by_cases h : w = 0xFFFF
  · subst h; decide
  · rw [recordState_written h]
    by_cases hbit : w.getLsbD 0 = true
    · rw [if_pos hbit]
      exact iff_of_true rfl ⟨h, hbit⟩
    · rw [if_neg hbit]
      refine iff_of_false ?_ fun hw => hbit hw.2
      split_ifs <;> simp

theorem recordState_void_iff : recordState w = .void ↔ w.getLsbD 0 = false ∧ w.getLsbD 3 = false := by
  by_cases h : w = 0xFFFF
  · subst h; decide
  · rw [recordState_written h]
    cases w.getLsbD 0 <;> cases w.getLsbD 3 <;> simp
    split_ifs <;> simp

theorem recordState_read_iff : recordState w = .read
    ↔ w.getLsbD 0 = false ∧ w.getLsbD 3 = true ∧ w.getLsbD 1 = false ∧ w.getLsbD 2 = false := by
  by_cases h : w = 0xFFFF
  · subst h; decide
  · rw [recordState_written h]
    cases w.getLsbD 0 <;> cases w.getLsbD 3 <;> cases w.getLsbD 1 <;> simp

end

/-- A bank is DIRTY when its header reads 0000h, or reads erased over words that do not (R116). -/
theorem classifyBank_dirty_iff {m : Nv} (h : nvWf 16384 m = true) : classifyBank m = .dirty
    ↔ nvRead m 0 = 0 ∨ (nvRead m 0 = 0xFFFF ∧ ∃ a, 1 ≤ a ∧ a < 16384 ∧ nvRead m a ≠ 0xFFFF) := by
  have hnil := nvWf_eq_nil_iff h
  unfold classifyBank
  by_cases hm : m = []
  · subst hm
    simp [nvRead, erasedWord]
  · rw [if_neg hm]
    have hwritten : ∃ a, a < 16384 ∧ nvRead m a ≠ 0xFFFF := by
      by_contra hall
      push Not at hall
      exact hm (hnil.2 hall)
    obtain ⟨a, ha, hwa⟩ := hwritten
    by_cases hx : nvRead m 0 = erasedWord ∨ nvRead m 0 = 0
    · rw [if_pos hx]
      refine iff_of_true rfl (hx.symm.imp_right fun h0 => ⟨h0, a, ?_, ha, hwa⟩)
      by_contra hzero
      exact hwa (by rw [show a = 0 by omega]; exact h0)
    · rw [if_neg hx]
      exact iff_of_false (by simp) fun hd => hx (hd.symm.imp And.left id)

theorem sequenceSuccessor_toNat {v : Word} (h : v.toNat < 65534) : (sequenceSuccessor v).toNat = v.toNat + 1 := by
  have hne : v ≠ 65534 := by
    rintro rfl
    exact absurd h (by decide)
  rw [sequenceSuccessor, if_neg hne, BitVec.toNat_add]
  exact Nat.mod_eq_of_lt (by have : (1 : Word).toNat = 1 := rfl; omega)

theorem foldl_max_spec (l : List Nat) : ∀ a, a ≤ l.foldl max a ∧ (∀ k ∈ l, k ≤ l.foldl max a)
    ∧ (l.foldl max a = a ∨ l.foldl max a ∈ l) := by
  induction l with
  | nil => exact fun a => ⟨le_rfl, by simp, .inl rfl⟩
  | cons x xs ih =>
    intro a
    obtain ⟨hle, hall, hmem⟩ := ih (max a x)
    refine ⟨(le_max_left a x).trans hle, fun k hk => ?_, ?_⟩
    · rcases List.mem_cons.1 hk with rfl | hk
      · exact (le_max_right a k).trans hle
      · exact hall k hk
    · rcases hmem with h | h
      · rcases max_choice a x with hc | hc
        · exact .inl (h.trans hc)
        · exact .inr (by rw [List.foldl_cons, h, hc]; exact List.mem_cons_self)
      · exact .inr (List.mem_cons_of_mem _ h)

/-! ### A bank's classification (R116, R135) -/

/-- The scan's notes once a bank is classified: its sequence value, when it has one. -/
def Scan.noted (c : Scan) (b : BankId) : HeaderClass → Scan
  | .fresh | .dirty => c
  | .sequence v => c.setValue b v

/-- A bank as its classification leaves it until the end. -/
def classifiedBank : HeaderClass → Bank
  | .fresh => ⟨.fresh, false, []⟩
  | .dirty => ⟨.dirty, true, []⟩
  | .sequence _ => ⟨.closed, false, []⟩

theorem scanClassify_eq (t : Store) (b : BankId) (m : Nv) : t.scanClassify b m
    = { t.setBank b (classifiedBank (classifyBank m)) with
        scan := (t.scan.noted b (classifyBank m)).classified b } := by
  unfold Store.scanClassify
  split <;> rename_i h <;> rw [h] <;> rfl

theorem Store.bank_withScan (t : Store) (c : Scan) (b : BankId) : ({ t with scan := c } : Store).bank b = t.bank b := by
  cases b <;> rfl

theorem scanClassify_spec (t : Store) (b : BankId) (m : Nv) :
    (t.scanClassify b m).bank b = classifiedBank (classifyBank m) ∧ (t.scanClassify b m).bank b.other = t.bank b.other
    ∧ (t.scanClassify b m).voidQueue = t.voidQueue ∧ (t.scanClassify b m).unread = t.unread
    ∧ (t.scanClassify b m).full = t.full ∧ (t.scanClassify b m).openBank = t.openBank
    ∧ (t.scanClassify b m).scan = (t.scan.noted b (classifyBank m)).classified b := by
  rw [scanClassify_eq]
  cases b <;> exact ⟨rfl, rfl, rfl, rfl, rfl, rfl, rfl⟩

theorem Scan.enter_value (c : Scan) (g : ScanStage) (b : BankId) : (c.enter g).value b = c.value b := by cases b <;> rfl

theorem Scan.enter_append (c : Scan) (g : ScanStage) (b : BankId) : (c.enter g).append b = c.append b := by cases b <;> rfl

theorem Scan.walked_spec (c : Scan) (b : BankId) : (∀ x, (c.walked b).value x = c.value x)
    ∧ (∀ x, (c.walked b).append x = c.append x) ∧ (c.walked b).greatest = c.greatest
    ∧ (b = .bank0 → c.value1 ≠ none → (c.walked b).stage = .walk .bank1 1)
    ∧ (b = .bank1 ∨ c.value1 = none → (c.walked b).stage = .decide) := by
  cases b with
  | bank1 => exact ⟨c.enter_value _, c.enter_append _, rfl, by simp, fun _ => rfl⟩
  | bank0 =>
    cases hv : c.value1 with
    | none =>
      simp only [Scan.walked, hv]
      exact ⟨c.enter_value _, c.enter_append _, rfl, by simp, fun _ => rfl⟩
    | some v =>
      simp only [Scan.walked, hv]
      exact ⟨c.enter_value _, c.enter_append _, rfl, fun _ _ => rfl, by simp⟩

theorem Scan.classified_spec (c : Scan) (b : BankId) : (∀ x, (c.classified b).value x = c.value x)
    ∧ (b = .bank0 → (c.classified b).stage = .classify .bank1)
    ∧ (b = .bank1 → c.value0 ≠ none → (c.classified b).stage = .walk .bank0 1)
    ∧ (b = .bank1 → c.value0 = none → c.value1 ≠ none → (c.classified b).stage = .walk .bank1 1)
    ∧ (b = .bank1 → c.value0 = none → c.value1 = none → (c.classified b).stage = .decide) := by
  cases b with
  | bank0 => exact ⟨c.enter_value _, fun _ => rfl, by simp, by simp, by simp⟩
  | bank1 =>
    cases hv : c.value0 with
    | none =>
      obtain ⟨hvalue, -, -, hwalk, hdecide⟩ := c.walked_spec .bank0
      simp only [Scan.classified, hv]
      exact ⟨hvalue, by simp, by simp, fun _ _ => hwalk rfl, fun _ _ h => hdecide (.inr h)⟩
    | some v =>
      simp only [Scan.classified, hv]
      exact ⟨c.enter_value _, by simp, fun _ _ => rfl, by simp, by simp⟩

theorem Scan.noted_value (c : Scan) (b : BankId) (h : HeaderClass) : (c.noted b h).value b.other = c.value b.other := by
  cases b <;> cases h <;> rfl

theorem scanStage_of_classify {s : State} {b : BankId} (h : s.store.scan.stage = .classify b) :
    s.scanStage = (s.setStore (s.store.scanClassify b (s.arrays.bank b))).take := by
  rw [State.scanStage, h]

/-! ### One position of a walk (R136, R138) -/

/-- How the end of a walk leaves the scan: the append point noted, and the next stage. -/
structure WalkEnds (c d : Scan) (b : BankId) (p : Option Nat) : Prop where
  append : d.append b = p
  greatest : d.greatest = c.greatest
  goesOn : b = .bank0 → c.value1 ≠ none → d.stage = .walk .bank1 1
  decides : b = .bank1 ∨ c.value1 = none → d.stage = .decide

theorem endWalk_eq (t : Store) (b : BankId) (p : Option Nat) :
    t.endWalk b p = { t with scan := (t.endWalk b p).scan } := rfl

theorem endWalk_ends (t : Store) (b : BankId) (p : Option Nat) : WalkEnds t.scan (t.endWalk b p).scan b p := by
  obtain ⟨-, happend, hgreatest, hwalk, hdecide⟩ := (t.scan.setAppend b p).walked_spec b
  refine ⟨(happend b).trans ?_, hgreatest.trans ?_, fun hb hv => hwalk hb ?_, fun h => hdecide ?_⟩
  · cases b <;> rfl
  · cases b <;> rfl
  · cases b <;> exact hv
  · cases b <;> exact h

theorem walkOn_eq (t : Store) (b : BankId) (p : Nat) : t.walkOn b p = { t with scan := (t.walkOn b p).scan } := by
  unfold Store.walkOn
  split
  · rfl
  · exact endWalk_eq t b _

theorem walkOn_of_lt {t : Store} {b : BankId} {p : Nat} (h : p < 16384) :
    (t.walkOn b p).scan = t.scan.enter (.walk b p) := by
  rw [Store.walkOn, if_pos (show p < Config.bankWords from h)]

theorem walkOn_of_end {t : Store} {b : BankId} {p : Nat} (h : p = 16384) :
    (t.walkOn b p).scan = (t.endWalk b (some 16384)).scan := by
  rw [Store.walkOn, if_neg (show ¬p < Config.bankWords by rw [h]; decide)]
  rfl

theorem walkOn_greatest (t : Store) (b : BankId) (p : Nat) : (t.walkOn b p).scan.greatest = t.scan.greatest := by
  unfold Store.walkOn
  split
  · rfl
  · exact (endWalk_ends t b _).greatest

theorem validLength_iff (p : Nat) (n : Word) :
    validLength p n = true ↔ 13 ≤ n.toNat ∧ n.toNat ≤ 726 ∧ p + n.toNat ≤ 16384 := by
  rw [validLength, Bool.and_eq_true, Bool.and_eq_true, decide_eq_true_eq, decide_eq_true_eq, decide_eq_true_eq, and_assoc]
  exact Iff.rfl

section
variable {t : Store} {b : BankId} {m : Nv} {p : Nat}

theorem scanWalk_of_free (h : recordState (nvRead m p) = .free) : t.scanWalk b m p = t.endWalk b (some p) := by
  rw [Store.scanWalk, h]

theorem scanWalk_of_state (hf : recordState (nvRead m p) ≠ .free) (hs : recordState (nvRead m p) ≠ .stray) :
    t.scanWalk b m p = if validLength p (nvRead m (p + 1)) then
        (t.passRecord b m ⟨p, (nvRead m (p + 1)).toNat⟩).walkOn b (p + (nvRead m (p + 1)).toNat)
      else t.endWalk b none := by
  unfold Store.scanWalk
  split
  next h => exact absurd h hf
  next h => exact absurd h hs
  next => rfl
  next => rfl
  next => rfl
  next => rfl

theorem scanWalk_of_stop (h : recordState (nvRead m p) = .stray
    ∨ (recordState (nvRead m p) ≠ .free ∧ ¬validLength p (nvRead m (p + 1)) = true)) :
    t.scanWalk b m p = t.endWalk b none := by
  by_cases hs : recordState (nvRead m p) = .stray
  · rw [Store.scanWalk, hs]
  · obtain ⟨hf, hv⟩ := h.resolve_left hs
    rw [scanWalk_of_state hf hs, if_neg hv]

theorem scanWalk_of_record (hf : recordState (nvRead m p) ≠ .free) (hs : recordState (nvRead m p) ≠ .stray)
    (hv : validLength p (nvRead m (p + 1)) = true) : t.scanWalk b m p
      = (t.passRecord b m ⟨p, (nvRead m (p + 1)).toNat⟩).walkOn b (p + (nvRead m (p + 1)).toNat) := by
  rw [scanWalk_of_state hf hs, if_pos hv]

end

theorem passRecord_spec (t : Store) (b : BankId) (m : Nv) (x : Extent) :
    (t.passRecord b m x).bank b = { t.bank b with records := (t.bank b).records ++ [x] }
    ∧ (t.passRecord b m x).bank b.other = t.bank b.other ∧ (t.passRecord b m x).openBank = t.openBank
    ∧ (t.passRecord b m x).scan.value1 = t.scan.value1 := by
  cases b <;> exact ⟨rfl, rfl, rfl, rfl⟩

/-- A position of a walk leaves the other bank and the open bank. -/
theorem scanWalk_keeps (t : Store) (b : BankId) (m : Nv) (p : Nat) :
    (t.scanWalk b m p).bank b.other = t.bank b.other ∧ (t.scanWalk b m p).openBank = t.openBank := by
  have hended (q : Option Nat) : (t.endWalk b q).bank b.other = t.bank b.other ∧ (t.endWalk b q).openBank = t.openBank :=
    ⟨Store.bank_withScan _ _ _, rfl⟩
  by_cases hf : recordState (nvRead m p) = .free
  · exact scanWalk_of_free hf ▸ hended _
  by_cases hs : recordState (nvRead m p) = .stray
  · exact scanWalk_of_stop (.inl hs) ▸ hended _
  by_cases hv : validLength p (nvRead m (p + 1)) = true
  · obtain ⟨-, hother, hopen, -⟩ := passRecord_spec t b m ⟨p, (nvRead m (p + 1)).toNat⟩
    rw [scanWalk_of_record hf hs hv, walkOn_eq]
    exact ⟨(Store.bank_withScan _ _ _).trans hother, hopen⟩
  · exact scanWalk_of_stop (.inr ⟨hf, hv⟩) ▸ hended _

theorem scanStage_of_walk {s : State} {b : BankId} {p : Nat} (h : s.store.scan.stage = .walk b p) :
    s.scanStage = (s.setStore (s.store.scanWalk b (s.arrays.bank b) p)).take := by
  rw [State.scanStage, h]

/-! ### The end of the scan (R137, R138) -/

theorem newer_of_none {c : Scan} (h0 : c.value0 = none) (h1 : c.value1 = none) : c.newer = none := by
  rw [Scan.newer, h0, h1]

theorem newer_of_one {c : Scan} {b : BankId} {v : Word} (h : c.value b = some v) (ho : c.value b.other = none) :
    c.newer = some b := by
  cases b with
  | bank0 =>
    have h0 : c.value0 = some v := h
    have h1 : c.value1 = none := ho
    rw [Scan.newer, h0, h1]
  | bank1 =>
    have h1 : c.value1 = some v := h
    have h0 : c.value0 = none := ho
    rw [Scan.newer, h0, h1]

theorem newer_of_values {c : Scan} {v0 v1 : Word} (h0 : c.value0 = some v0) (h1 : c.value1 = some v1) :
    c.newer = some (newerBySequence v0 v1) := by
  rw [Scan.newer, h0, h1]

/-- The bank whose value comes after the other's, else the greater one, else bank 0 (R117). -/
theorem newer_of_two {c : Scan} {b : BankId} {v w : Word} (h : c.value b = some v) (ho : c.value b.other = some w)
    (hs : w ≠ sequenceSuccessor v) (hn : v = sequenceSuccessor w ∨ w.toNat < v.toNat ∨ (w = v ∧ b = .bank0)) :
    c.newer = some b := by
  cases b with
  | bank0 =>
    have h0 : c.value0 = some v := h
    have h1 : c.value1 = some w := ho
    rw [newer_of_values h0 h1]
    unfold newerBySequence
    rw [if_neg hs]
    by_cases hv : v = sequenceSuccessor w
    · rw [if_pos hv]
    · have hle : ¬v < w := by
        rcases hn.resolve_left hv with hlt | ⟨rfl, -⟩
        · exact BitVec.not_lt.2 (BitVec.le_def.2 hlt.le)
        · exact BitVec.lt_irrefl w
      rw [if_neg hv, if_neg hle]
  | bank1 =>
    have h1 : c.value1 = some v := h
    have h0 : c.value0 = some w := ho
    rw [newer_of_values h0 h1]
    unfold newerBySequence
    by_cases hv : v = sequenceSuccessor w
    · rw [if_pos hv]
    · have hlt : w < v := BitVec.lt_def.2 ((hn.resolve_left hv).resolve_right (by simp))
      rw [if_neg hv, if_neg hs, if_pos hlt]

theorem scanDecide_spec (t : Store) : t.scanDecide.voidQueue = t.voidQueue ∧ t.scanDecide.unread = t.unread
    ∧ (t.scan.newer = none → t.scanDecide = t)
    ∧ ∀ b, t.scan.newer = some b → (∀ p, t.scan.append b = some p →
        t.scanDecide = { t.setState b .opened with openBank := some b, appendPoint := p })
      ∧ (t.scan.append b = none → t.scanDecide = t) := by
  unfold Store.scanDecide
  cases hn : t.scan.newer with
  | none => simp
  | some b =>
    cases ha : t.scan.append b with
    | none => simp [ha]
    | some p => cases b <;> simp [ha, Store.setState, Store.setBank]

theorem nextFromGreatest_toNat (g : Nat) : (nextFromGreatest g).toNat = min (g + 1) 65535 :=
  (BitVec.toNat_ofNat _ _).trans (Nat.mod_eq_of_lt (by omega))

/-- The scan's decisions, up to the end of STARTING. -/
def State.scanDecided (s : State) : State :=
  (s.setStore { s.store.scanDecide with scanned := true, scan := Scan.first }).setEngine
    { s.engine with next := nextFromGreatest s.store.scan.greatest }

/-- Settles O6: the classification by `scanClassify_eq`, a position of the walk by its three outcomes, the end by the bank
that is newer. -/
theorem scanRebuildsTheStoreAndNext : Obligations.ScanRebuildsTheStoreAndNext := by
  refine ⟨fun b s hg => ⟨_, scanStage_of_classify hg, rfl, rfl, rfl, rfl, ?classify⟩,
    fun b p s hg => ⟨_, scanStage_of_walk hg, rfl, rfl, rfl, rfl, ?walk⟩,
    fun s hp hs hg => ?stages, fun s hp hs hg => ?ends,
    fun w => ⟨recordState_free_iff w, recordState_stray_iff w, recordState_void_iff w, recordState_started_iff w,
      recordState_complete_iff w, recordState_read_iff w⟩,
    fun m h => ⟨classifyBank_fresh_iff h, classifyBank_dirty_iff h, classifyBank_sequence_iff m⟩, rfl,
    fun v => sequenceSuccessor_toNat, fun m x k => ?numbers⟩
  case classify =>
    obtain ⟨hbank, hother, hvoid, hunread, hfull, hopen, hscan⟩ := scanClassify_spec s.store b (s.arrays.bank b)
    obtain ⟨hvalue, hfirst, hwalk, hsecond, hdecide⟩ :=
      (s.store.scan.noted b (classifyBank (s.arrays.bank b))).classified_spec b
    have hkept := s.store.scan.noted_value b (classifyBank (s.arrays.bank b))
    rw [← hscan] at hvalue hfirst hwalk hsecond hdecide
    refine ⟨hother, hvoid, hunread, hfull, hopen, fun h => ?_, fun h => ?_, fun v h => ?_, hfirst, ?_, ?_, ?_⟩
    · exact ⟨by rw [State.setStore_store, hbank, h]; rfl, by rw [State.setStore_store, hvalue, h]; rfl⟩
    · exact ⟨by rw [State.setStore_store, hbank, h]; rfl, by rw [State.setStore_store, hvalue, h]; rfl⟩
    · exact ⟨by rw [State.setStore_store, hbank, h]; rfl, by rw [State.setStore_store, hvalue, h]; cases b <;> rfl⟩
    · rintro rfl h
      exact hwalk rfl fun h0 => h (hkept.symm.trans h0)
    · rintro rfl h h1
      exact hsecond rfl (hkept.trans h) fun hv => h1 ((hvalue .bank1).trans hv)
    · rintro rfl h h1
      exact hdecide rfl (hkept.trans h) ((hvalue .bank1).symm.trans h1)
  case walk =>
    obtain ⟨hother, hopen⟩ := scanWalk_keeps s.store b (s.arrays.bank b) p
    refine ⟨hother, hopen, fun hf => ?free, fun hstop => ?stops, fun hf hs hv => ?passes⟩
    case free =>
      have hends := endWalk_ends s.store b (some p)
      rw [State.setStore_store, scanWalk_of_free hf]
      exact ⟨rfl, hends.append, hends.goesOn, hends.decides⟩
    case stops =>
      have hends := endWalk_ends s.store b none
      rw [State.setStore_store, scanWalk_of_stop (hstop.imp_right fun h => ⟨h.1, mt (validLength_iff _ _).1 h.2⟩)]
      exact ⟨rfl, hends.append, hends.goesOn, hends.decides⟩
    case passes =>
      have hrecord := scanWalk_of_record (t := s.store) (b := b) hf hs ((validLength_iff _ _).2 hv)
      obtain ⟨hbank, -, -, hvalue⟩ := passRecord_spec s.store b (s.arrays.bank b)
        ⟨p, (nvRead (s.arrays.bank b) (p + 1)).toNat⟩
      obtain ⟨hle, hall, hmem⟩ := foldl_max_spec
        (recordNumbers (s.arrays.bank b) ⟨p, (nvRead (s.arrays.bank b) (p + 1)).toNat⟩) s.store.scan.greatest
      rw [State.setStore_store, hrecord]
      generalize hq : s.store.passRecord b (s.arrays.bank b) ⟨p, (nvRead (s.arrays.bank b) (p + 1)).toNat⟩ = q at *
      generalize (nvRead (s.arrays.bank b) (p + 1)).toNat = n at *
      have hgreatest := walkOn_greatest q b (p + n)
      have hfold : q.scan.greatest = (recordNumbers (s.arrays.bank b) ⟨p, n⟩).foldl max s.store.scan.greatest := by
        rw [← hq]; rfl
      rw [← hfold, ← hgreatest] at hle hall hmem
      refine ⟨?_, ?_, ?_, hall, hle, hmem, fun hlt => ?_, fun hend => ?_⟩
      · rw [walkOn_eq, Store.bank_withScan, hbank]
      · rw [walkOn_eq, ← hq]; rfl
      · rw [walkOn_eq, ← hq]; rfl
      · rw [walkOn_of_lt hlt]; rfl
      · have hends := endWalk_ends q b (some 16384)
        rw [walkOn_of_end hend]
        exact ⟨hends.append, hvalue ▸ hends.goesOn, hvalue ▸ hends.decides⟩
  case stages =>
    rw [exec_startupScan hp, State.startupScan_stage hs hg, exec_startupScan ((scanStage_touches s).powered.trans hp)]
  case ends =>
    obtain ⟨harrays, hstore, horders, hsetup, hprogrammer, hengine⟩ := leaveStarting_keeps s.scanDecided
    obtain ⟨hvoid, hunread, hnone, hsome⟩ := scanDecide_spec s.store
    have hbank (b : BankId) : s.scanDecided.leaveStarting.store.bank b = s.store.scanDecide.bank b := by
      rw [hstore]; cases b <;> rfl
    have hopen : s.scanDecided.leaveStarting.store.openBank = s.store.scanDecide.openBank := by rw [hstore]; rfl
    have happend : s.scanDecided.leaveStarting.store.appendPoint = s.store.scanDecide.appendPoint := by rw [hstore]; rfl
    refine ⟨s.scanDecided.leaveStarting.refreshFault, ?exec, ?_⟩
    case exec => rw [exec_startupScan hp, State.startupScan_decide hs hg]; rfl
    refine ⟨congrArg Store.scanned hstore, (congrArg Store.voidQueue hstore).trans hvoid,
      (congrArg Store.unread hstore).trans hunread, harrays, hprogrammer, horders, ?engine, ?next, fun h0 h1 => ?noBank,
      fun b v hv hnew => ?newer, fun hm hv => leaveStarting_of_ended hm hv rfl, fun hm hv => ?starting⟩
    case engine => rw [State.refreshFault_engine, hengine]; rfl
    case next => rw [State.refreshFault_engine, hengine]; exact nextFromGreatest_toNat _
    case noBank =>
      have hkeep := hnone (newer_of_none h0 h1)
      exact ⟨(hbank .bank0).trans (congrArg Store.bank0 hkeep), (hbank .bank1).trans (congrArg Store.bank1 hkeep),
        hopen.trans (congrArg Store.openBank hkeep)⟩
    case newer =>
      have hnewer : s.store.scan.newer = some b := by
        rcases hnew with ho | ⟨w, ho, hsucc, hw⟩
        · exact newer_of_one hv ho
        · exact newer_of_two hv ho hsucc hw
      obtain ⟨hopened, hclosed⟩ := hsome b hnewer
      simp only [State.refreshFault_store, hbank, hopen, happend]
      refine ⟨?_, fun p hp => ?_, fun hp => ?_⟩
      · cases ha : s.store.scan.append b with
        | none => rw [hclosed ha]
        | some p => rw [hopened p ha]; cases b <;> rfl
      · rw [hopened p hp]; cases b <;> exact ⟨rfl, rfl, rfl, rfl⟩
      · rw [hclosed hp]; exact ⟨rfl, rfl⟩
    case starting =>
      have hwaits : s.scanDecided.leaveStarting = s.scanDecided := leaveStarting_of_waits (.inl hv)
      rw [State.refreshFault_membership, hwaits]
      exact hm
  case numbers =>
    simp only [mem_recordNumbers, mem_mergeNumbers]
    exact Iff.rfl

end Sys2Proof.Machine
end

section
/-!
The line outside the rounds (O7, O8, O9): the mark search, silence, backoff and opening, and the edges that cost an ALIGNED
station its alignment or resynchronise it.
-/

namespace Sys2Proof.Machine

section
variable {s : State}

/-! ### The mark search (R17, R18) -/

theorem alignByMarks_of_marks (h : s.searching = true) (hs : s.line.search.singles = some 36) :
    s.alignByMarks = s.becomeAligned 1 .q2 := by
  have hsingles : s.line.search.singles = some Config.markSingles := hs
  rw [State.alignByMarks, h, hsingles]
  rfl

theorem secondMark_iff (singles : Option Nat) (i : Interval) :
    secondMark singles i = true ↔ i = .double ∧ singles = some 36 := by
  rw [secondMark, Bool.and_eq_true, beq_iff_eq, beq_iff_eq]
  exact Iff.rfl

/-- The search after an edge that does not align the station. -/
def Line.searched (l : Line) (x : Search) : Line := { l with search := x, silence := some Timer.zero }

theorem markSearchEdge_of_first (h : s.searching = true) (he : s.line.search.edgeSeen = false) (d : Nat) :
    s.markSearchEdge d = s.setLine (s.line.searched ⟨true, none⟩) := by
  rw [State.markSearchEdge, if_pos h, if_neg (by simp [he])]
  rfl

theorem markSearchEdge_of_second_mark (h : s.searching = true) (he : s.line.search.edgeSeen = true) {d : Nat}
    (hd : classify d = .double) (hs : s.line.search.singles = some 36) : s.markSearchEdge d = s.becomeAligned 1 .q2 := by
  rw [State.markSearchEdge, if_pos h, if_pos he, if_pos ((secondMark_iff _ _).2 ⟨hd, hs⟩)]

theorem markSearchEdge_of_interval (h : s.searching = true) (he : s.line.search.edgeSeen = true) {d : Nat}
    (hd : ¬(classify d = .double ∧ s.line.search.singles = some 36)) : s.markSearchEdge d
      = s.setLine (s.line.searched ⟨true, searchStep s.line.search.singles (classify d)⟩) := by
  rw [State.markSearchEdge, if_pos h, if_pos he, if_neg (mt (secondMark_iff _ _).1 hd)]
  rfl

theorem searchStep_spec : (∀ x, searchStep x .double = some 0) ∧ (∀ x, searchStep x .broken = none)
    ∧ searchStep none .single = none ∧ (∀ n, n < 36 → searchStep (some n) .single = some (n + 1))
    ∧ (∀ n, 36 ≤ n → searchStep (some n) .single = none) := by
  refine ⟨fun x => rfl, fun x => rfl, rfl, fun n h => if_pos h, fun n h => if_neg h.not_gt⟩

theorem classify_cases (d : Nat) : (classify d = .single ↔ 75 ≤ d ∧ d ≤ 125) ∧ (classify d = .double ↔ 175 ≤ d ∧ d ≤ 225)
    ∧ (classify d = .broken ↔ d < 75 ∨ (125 < d ∧ d < 175) ∨ 225 < d) := by
  unfold classify
  split
  · exact ⟨iff_of_true rfl ‹_›, iff_of_false (by simp) (by omega), iff_of_false (by simp) (by omega)⟩
  · split
    · exact ⟨iff_of_false (by simp) (by omega), iff_of_true rfl ‹_›, iff_of_false (by simp) (by omega)⟩
    · exact ⟨iff_of_false (by simp) (by omega), iff_of_false (by simp) (by omega), iff_of_true rfl (by omega)⟩

end

/-- Settles O7: an edge either is the second mark, or restarts the silence timer with the search it leaves. -/
theorem searchFindsTheMarks : Obligations.SearchFindsTheMarks := by
  refine ⟨fun s hp h hs => ?align, fun d s hp h => ?edge, classify_cases⟩
  case align =>
    refine ⟨_, exec_alignByMarks hp, ?_⟩
    rw [alignByMarks_of_marks h hs]
    exact ⟨rfl, rfl, rfl, rfl, rfl, rfl, rfl, rfl, rfl, rfl, rfl⟩
  case edge =>
    obtain ⟨-, hseeking, -⟩ := searching_seeking h
    refine ⟨_, exec_markSearchEdge d hp, ?_⟩
    cases he : s.line.search.edgeSeen with
    | false =>
      rw [markSearchEdge_of_first h he]
      exact ⟨rfl, rfl, rfl, rfl, fun _ => rfl, by simp, fun _ => ⟨rfl, hseeking, rfl⟩⟩
    | true =>
      by_cases hd : classify d = .double ∧ s.line.search.singles = some 36
      · obtain ⟨hd, hs⟩ := hd
        rw [markSearchEdge_of_second_mark h he hd hs]
        exact ⟨rfl, rfl, rfl, rfl, by simp, fun _ => ⟨by simp [hd], by simp [hd], by simp [hd], by simp [hd],
          fun _ hne => absurd hs hne, fun _ _ => ⟨rfl, rfl, rfl, rfl, rfl⟩⟩, fun hne => absurd ⟨rfl, hd, hs⟩ hne⟩
      · obtain ⟨hdouble, hbroken, hnone, hsingle, hpast⟩ := searchStep_spec
        rw [markSearchEdge_of_interval h he hd]
        refine ⟨rfl, rfl, rfl, rfl, by simp, fun _ => ⟨fun hc => ?_, fun hc hn => ?_, fun n hc hn hlt => ?_,
          fun n hc hn hle => ?_, fun hc _ => ?_, fun hc hs => absurd ⟨hc, hs⟩ hd⟩, fun _ => ⟨rfl, hseeking, rfl⟩⟩
        · exact congrArg (Search.mk true) (by rw [hc, hbroken])
        · exact congrArg (Search.mk true) (by rw [hc, hn, hnone])
        · exact congrArg (Search.mk true) (by rw [hc, hn, hsingle n hlt])
        · exact congrArg (Search.mk true) (by rw [hc, hn, hpast n hle])
        · exact congrArg (Search.mk true) (by rw [hc, hdouble])

/-! ### Silence, backoff, opening (R18, R19) -/

section
variable {s : State}

theorem silenceTimerExpiry_of_high (h : s.searching = true) (draw : BitVec 6) :
    s.silenceTimerExpiry true draw = s.setLine { s.line with
      align := .silent, search := ⟨false, none⟩, silence := none
      backoff := some ⟨Config.backoffBase + draw.toNat, 0⟩ } := by
  rw [State.silenceTimerExpiry, if_pos h, if_pos rfl]

theorem silenceTimerExpiry_of_low (h : s.searching = true) (draw : BitVec 6) :
    s.silenceTimerExpiry false draw = s.setLine { s.line with silence := some Timer.zero } := by
  rw [State.silenceTimerExpiry, if_pos h, if_neg (by simp)]

theorem edgeDuringBackoff_of_fall (h : s.line.align = .silent) :
    s.edgeDuringBackoff true = s.setLine (s.line.freshSearch true) := by
  rw [State.edgeDuringBackoff, if_pos h, if_pos rfl]

theorem edgeDuringBackoff_of_low (h : s.line.align = .silent) :
    s.edgeDuringBackoff false = s.setLine { s.line.freshSearch false with silence := none, heldLow := true } := by
  rw [State.edgeDuringBackoff, if_pos h, if_neg (by simp)]

theorem openLine_of_silent (h : s.line.align = .silent) (hm : s.membership.state = .seeking) :
    s.openLine = s.becomeAligned 0 .q1 := if_pos ⟨h, hm⟩

end

/-- Settles O8: each command by its equation. -/
theorem silenceThenBackoffThenOpening : Obligations.SilenceThenBackoffThenOpening := by
  refine ⟨fun draw s hp h => ⟨⟨_, exec_silenceTimerExpiry true draw hp, ?_⟩,
    ⟨_, exec_silenceTimerExpiry false draw hp, ?_⟩⟩, fun s hp h hm => ⟨⟨_, exec_edgeDuringBackoff true hp, ?_⟩,
      ⟨_, exec_edgeDuringBackoff false hp, ?_⟩, ⟨_, exec_openLine hp, ?_⟩⟩⟩
  · rw [silenceTimerExpiry_of_high h]
    exact ⟨rfl, rfl, rfl, rfl⟩
  · rw [silenceTimerExpiry_of_low h]
    exact ⟨(searching_seeking h).2.1, rfl, rfl, rfl⟩
  · rw [edgeDuringBackoff_of_fall h]
    exact ⟨rfl, rfl, rfl, rfl, rfl⟩
  · rw [edgeDuringBackoff_of_low h]
    exact ⟨rfl, rfl, rfl, rfl, rfl, rfl⟩
  · rw [openLine_of_silent h hm]
    exact ⟨rfl, rfl, rfl, rfl, rfl, rfl, rfl⟩

/-! ### Departures (R45, R61, R71, R73, R149) -/

/-- A departure, whatever becomes of the line, the membership and the pins. -/
structure Departed (s t : State) : Prop where
  ring : t.ring = s.depart.ring
  sequencer : t.sequencer = s.depart.sequencer
  engine : t.engine = s.depart.engine
  monitors : t.monitors = s.depart.monitors
  staging : t.staging = s.depart.staging
  arrays : t.arrays = s.depart.arrays
  store : t.store = s.depart.store
  orders : t.orders = s.depart.orders
  lock : t.lock = s.depart.lock

theorem engineDepart_staging (s : State) : s.engineDepart.staging
    = if s.engine.state = .capturing then s.staging.abandon else s.staging := by
  unfold State.engineDepart
  cases h : s.engine.state <;> simp

theorem depart_staging (s : State) : s.depart.staging
    = if s.engine.state = .capturing then s.staging.abandon else s.staging := by
  have h := engineDepart_staging (((s.setSequencer (sequencerDepart s.sequencer)).setMonitors
    (clearTripCounts s.monitors)).setRing [])
  unfold State.depart
  simp only
  split <;> exact h

theorem abandon_of_filling {q : Staging} {i : SlotId} {c : Construction} (h : q.fillingSlot = some (i, c)) :
    q.abandon = q.setSlot i .empty := by
  rw [Staging.abandon, h]

section
variable {s t : State} (d : Departed s t)
include d

/-- What a departure leaves of the acquisition side. -/
theorem Departed.acquisition : t.ring = [] ∧ t.sequencer = sequencerDepart s.sequencer
    ∧ t.monitors.alertPending = s.monitors.alertPending
    ∧ ∀ i : Fin 8, t.monitors.inputs[i] = { s.monitors.inputs[i] with count := 0 } := by
  obtain ⟨hring, hsequencer, hmonitors, -⟩ := s.depart_acquisition
  rw [d.ring, d.sequencer, d.monitors, hmonitors]
  exact ⟨hring, hsequencer, clearTripCounts_spec s.monitors⟩

theorem Departed.engine_stands : t.engine.state = .idle ∧ t.engine.due = false ∧ t.engine.next = s.engine.next := by
  obtain ⟨hstate, hdue, hnext, -, -⟩ := s.depart_engine
  rw [d.engine]
  exact ⟨hstate, hdue, hnext⟩

theorem Departed.of_idle (h : s.engine.state = .idle) : t.staging = s.staging ∧ t.engine = { s.engine with due := false } := by
  obtain ⟨-, -, -, -, heq⟩ := s.depart_engine
  rw [d.staging, depart_staging, d.engine, heq, h]
  exact ⟨rfl, rfl⟩

/-- A capture under way is abandoned and counted as missed (R91). -/
theorem Departed.of_capturing (h : s.engine.state = .capturing) :
    t.engine = { engineAbandoned s.engine with due := false } ∧ t.staging = s.staging.abandon := by
  obtain ⟨-, -, -, -, heq⟩ := s.depart_engine
  rw [d.staging, depart_staging, d.engine, heq, if_pos h, if_pos h]
  exact ⟨rfl, rfl⟩

theorem Departed.keeps : t.arrays = s.arrays ∧ t.store = s.store ∧ t.orders.holding = s.orders.holding :=
  ⟨d.arrays.trans s.depart_arrays, d.store.trans s.depart_store, (congrArg Orders.holding d.orders).trans s.depart_holding⟩

theorem Departed.of_member (h : s.membership.state = .member) :
    t.lock = .locked ∧ t.orders.outbox = none ∧ t.orders.stream = none ∧ t.orders.awaited = none := by
  obtain ⟨hlock, houtbox, hstream, hawaited, -, -, -⟩ := State.depart_orders_member h
  rw [d.lock, d.orders]
  exact ⟨hlock, houtbox, hstream, hawaited⟩

end

/-! ### Edges of an ALIGNED station (R4, R20, R21) -/

/-- Whether the new search starts from the edge that was foreign. -/
def foreignFall : LineEdge → Bool
  | .fall _ _ => true
  | .lowThroughQ1 _ => false

section
variable {s : State}

theorem lineEdge_fall (ha : s.line.align = .aligned) (ho : s.onLine = true) (slot : Fin 38) (q : Quarter) :
    s.lineEdge (.fall slot q) = if slot = 0 then (if q = .q4 then s else s.foreignPulse true)
      else if q = .q1 then s.setLine { s.line with position := slot, phase := .q2, phaseTime := 0 } else s :=
  if_pos ⟨ha, ho⟩

theorem lineEdge_of_foreign {e : LineEdge} (he : e.isForeign = true) (ha : s.line.align = .aligned) (ho : s.onLine = true) :
    s.lineEdge e = s.foreignPulse (foreignFall e) := by
  cases e with
  | lowThroughQ1 slot => exact if_pos ⟨ha, ho⟩
  | fall slot q =>
    obtain ⟨h0, hq⟩ : slot = 0 ∧ q ≠ .q4 := by simpa [LineEdge.isForeign] using he
    rw [lineEdge_fall ha ho, if_pos h0, if_neg hq]
    rfl

/-- A sync loss that leaves the station SEEKING (R20, R29). -/
def State.lostSync (s : State) (m : Membership) (edge : Bool) : State :=
  (s.depart.setLine (s.depart.line.freshSearch edge)).setMembership m

/-- The third sync loss (R30). -/
def State.lostSyncThrice (s : State) : State :=
  (s.withdraw .sync).setMembership { (s.withdraw .sync).membership with syncLosses := s.membership.syncLosses + 1 }

theorem lostSync_departed (s : State) (m : Membership) (edge : Bool) : Departed s (s.lostSync m edge).refreshFault := by
  constructor <;> rfl

theorem lostSyncThrice_departed (s : State) : Departed s s.lostSyncThrice.refreshFault := by constructor <;> rfl

theorem foreignPulse_of_joining (h : s.membership.state = .joining) (edge : Bool) :
    s.foreignPulse edge = s.lostSync s.membership.lost edge := by
  rw [State.foreignPulse, h, State.lostSync, ← s.depart_membership]

theorem foreignPulse_of_member (h : s.membership.state = .member) (edge : Bool) : s.foreignPulse edge
    = if 3 ≤ s.membership.syncLosses + 1 then s.lostSyncThrice
      else s.lostSync { s.membership with syncLosses := s.membership.syncLosses + 1 }.lost edge := by
  rw [State.foreignPulse, h]
  rfl

theorem lostSync_line (s : State) (m : Membership) (edge : Bool) :
    (s.lostSync m edge).line = s.line.freshSearch edge ∧ (s.lostSync m edge).rest = { s.rest with count := 0 } :=
  ⟨congrArg (Line.freshSearch · edge) s.depart_line, s.depart_acquisition.2.2.2⟩

theorem lostSyncThrice_line (s : State) :
    s.lostSyncThrice.line = s.line.inactive ∧ s.lostSyncThrice.rest = { s.rest with count := 0 } :=
  ⟨congrArg Line.inactive s.depart_line, s.depart_acquisition.2.2.2⟩

theorem lostSyncThrice_membership (s : State) : s.lostSyncThrice.membership
    = { s.membership with state := .withdrawn, cause := .sync, syncLosses := s.membership.syncLosses + 1 } :=
  congrArg (fun m : Membership => { m with
    state := .withdrawn, cause := .sync, syncLosses := s.membership.syncLosses + 1 }) s.depart_membership

theorem foreignPulse_searches (edge : Bool) (ho : s.onLine = true)
    (h : s.membership.state = .joining ∨ s.membership.syncLosses + 1 < 3) :
    (s.foreignPulse edge).line = s.line.freshSearch edge := by
  rcases (onLine_iff s).1 ho with hj | hm
  · rw [foreignPulse_of_joining hj, (lostSync_line s _ edge).1]
  · have hlt := h.resolve_left (by simp [hm])
    rw [foreignPulse_of_member hm, if_neg (by omega), (lostSync_line s _ edge).1]

theorem foreignPulse_line (ho : s.onLine = true) (edge : Bool) : (s.foreignPulse edge).line.align = .seeking
    ∧ (s.foreignPulse edge).line.round = none ∧ (s.foreignPulse edge).line.count = s.line.count
    ∧ (s.foreignPulse edge).line.backoff = none ∧ (s.foreignPulse edge).rest.count = 0 := by
  have hfound (m : Membership) := lostSync_line s m edge
  obtain ⟨hline, hrest⟩ := lostSyncThrice_line s
  rcases (onLine_iff s).1 ho with h | h
  · rw [foreignPulse_of_joining h, (hfound _).1, (hfound _).2]
    exact ⟨rfl, rfl, rfl, rfl, rfl⟩
  · rw [foreignPulse_of_member h]
    split
    · rw [hline, hrest]
      exact ⟨rfl, rfl, rfl, rfl, rfl⟩
    · rw [(hfound _).1, (hfound _).2]
      exact ⟨rfl, rfl, rfl, rfl, rfl⟩

theorem foreignPulse_departs (ho : s.onLine = true) (edge : Bool) : Departed s (s.foreignPulse edge).refreshFault := by
  rcases (onLine_iff s).1 ho with h | h
  · rw [foreignPulse_of_joining h]
    exact lostSync_departed s _ edge
  · rw [foreignPulse_of_member h]
    split
    · exact lostSyncThrice_departed s
    · exact lostSync_departed s _ edge

end

/-- Settles O9: a foreign pulse is a departure that ends in SEEKING, or at the third sync loss in WITHDRAWN. -/
theorem edgesCostTheAlignmentOrResynchronise : Obligations.EdgesCostTheAlignmentOrResynchronise := by
  refine ⟨fun e s he hp ha ho => ⟨_, exec_foreignPulse e hp, ?foreign⟩, fun slot s hp ha ho => ?falls⟩
  case foreign =>
    rw [lineEdge_of_foreign he ha ho]
    have hdeparts := foreignPulse_departs (s := s) ho (foreignFall e)
    obtain ⟨hring, hsequencer, halert, hinputs⟩ := hdeparts.acquisition
    obtain ⟨hstate, hdue, hnext⟩ := hdeparts.engine_stands
    obtain ⟨harrays, hstore, hholding⟩ := hdeparts.keeps
    obtain ⟨hline, hround, hcount, hbackoff, hrest⟩ := foreignPulse_line (s := s) ho (foreignFall e)
    rw [hsequencer]
    refine ⟨hline, hround, hcount, hbackoff, hring, rfl, rfl, rfl, rfl, hstate, hdue, hnext, harrays, hstore, hholding,
      hrest, halert, hinputs, hdeparts.of_idle, fun hc => ?capturing, fun hm => ?searches, fun hj => ?joining,
      fun hm => ?member, fun hm hlt => ?seeking, fun hm hle => ?withdrawn⟩
    case capturing =>
      obtain ⟨hengine, hstaging⟩ := hdeparts.of_capturing hc
      rw [hengine, hstaging]
      exact ⟨rfl, rfl, rfl, rfl, rfl, rfl, rfl, rfl, rfl, fun i c h => abandon_of_filling h⟩
    case searches =>
      rw [State.refreshFault_line, foreignPulse_searches _ ho hm]
      cases e <;> rfl
    case joining => rw [foreignPulse_of_joining hj]; exact ⟨rfl, rfl, rfl⟩
    case member =>
      refine ⟨?_, hdeparts.of_member hm⟩
      rw [foreignPulse_of_member hm]
      split
      · rfl
      · rfl
    case seeking =>
      rw [foreignPulse_of_member hm, if_neg (by omega)]
      exact ⟨rfl, rfl, rfl⟩
    case withdrawn =>
      rw [foreignPulse_of_member hm, if_pos hle, State.refreshFault_membership, lostSyncThrice_membership,
        State.refreshFault_line, (lostSyncThrice_line s).1]
      exact ⟨rfl, rfl, rfl, rfl, rfl, rfl⟩
  case falls =>
    refine ⟨fun h0 => ?_, fun q h0 hq => ?_, ?_⟩
    · rw [exec_foreignPulse _ hp, lineEdge_fall ha ho, if_neg h0, if_pos rfl]
    · rw [exec_foreignPulse _ hp, lineEdge_fall ha ho, if_neg h0, if_neg hq]
    · rw [exec_foreignPulse _ hp, lineEdge_fall ha ho, if_pos rfl, if_pos rfl]

end Sys2Proof.Machine
end

section
/-!
What a station sends and what the line carries (O10): the contests bit by bit, an offer's outcome, and the driver fault that is
a 0 sent where the line reads 1.
-/

namespace Sys2Proof.Machine

/-! ### Bits on the line (R5) -/

section
variable {n : Nat}

theorem lineBits_length (v : BitVec n) : (lineBits v).length = n := by simp [lineBits]

theorem lineBits_getElem? (v : BitVec n) (j : Nat) : (lineBits v)[j]? = if j < n then some (v.getMsbD j) else none := by
  rw [lineBits, List.getElem?_map]
  by_cases h : j < n
  · rw [List.getElem?_range h, if_pos h]; rfl
  · rw [List.getElem?_eq_none (by simpa using h), if_neg h]; rfl

theorem lineBits_getElem?_of_lt {v : BitVec n} {j : Nat} (h : j < n) : (lineBits v)[j]? = some (v.getMsbD j) := by
  rw [lineBits_getElem?, if_pos h]

theorem lineBits_eq_some_iff {v : BitVec n} {j : Nat} {b : Bool} :
    (lineBits v)[j]? = some b ↔ j < n ∧ v.getMsbD j = b := by
  rw [lineBits_getElem?]
  by_cases h : j < n <;> simp [h]

theorem lineBits_inj {v w : BitVec n} (h : lineBits v = lineBits w) : v = w := by
  refine BitVec.eq_of_getMsbD_eq fun j hj => ?_
  have hbit := congrArg (fun l : List Bool => l[j]?) h
  simp only [lineBits_getElem?_of_lt hj] at hbit
  exact Option.some.inj hbit

theorem getMsbD_field (v : BitVec n) {lo len skip j : Nat} (h : skip + len + lo = n) (hj : j < len) :
    (v.extractLsb' lo len).getMsbD j = v.getMsbD (skip + j) := by
  rw [BitVec.getMsbD_extractLsb', decide_eq_true hj, decide_eq_true (by omega), Bool.true_and, Bool.true_and,
    show n - (lo + len - j) = skip + j by omega]

/-- A field of a body is its slots' bits. -/
theorem lineBits_field (v : BitVec n) {lo len skip : Nat} (h : skip + len + lo = n) :
    lineBits (v.extractLsb' lo len) = ((lineBits v).drop skip).take len := by
  refine List.ext_getElem? fun j => ?_
  rw [lineBits_getElem?, List.getElem?_take, List.getElem?_drop, lineBits_getElem?]
  by_cases hj : j < len
  · rw [if_pos hj, if_pos hj, if_pos (by omega), getMsbD_field v h hj]
  · rw [if_neg hj, if_neg hj]

end

/-! ### Contests (R7, R9, R10, R12) -/

theorem sentWithin_cons (a b : Bool) (own heard : List Bool) (j : Nat) :
    sentWithin (a :: own) (b :: heard) (j + 1) = if a = b then sentWithin own heard j else true := by
  unfold sentWithin
  simp only [List.take_succ_cons, List.cons.injEq, List.getD_cons_succ]
  by_cases h : a = b <;> simp [h]

/-- A bit sent depends on the slots before it alone. -/
theorem sentWithin_take (own heard : List Bool) {j m : Nat} (h : j ≤ m) :
    sentWithin own (heard.take m) j = sentWithin own heard j := by
  unfold sentWithin
  rw [List.take_take, Nat.min_eq_left h]

/-- A contest ends in a driver fault when at some bit the station sends 0 and the line reads 1. -/
theorem contend_driverFault_iff (own heard : List Bool) : ∀ k, contend k own heard = .driverFault
    ↔ ∃ j, heard[j]? = some true ∧ sentWithin own heard j = false := by
  induction own generalizing heard with
  | nil => intro k; simp [contend, sentWithin]
  | cons a own ih =>
    intro k
    cases heard with
    | nil => simp [contend]
    | cons b heard =>
      rw [contend]
      by_cases hab : a = b
      · rw [if_pos hab, ih]
        constructor
        · rintro ⟨j, hline, hsent⟩
          exact ⟨j + 1, hline, by rw [sentWithin_cons, if_pos hab, hsent]⟩
        · rintro ⟨j, hline, hsent⟩
          cases j with
          | zero =>
            have hb : b = true := Option.some.inj hline
            have ha : a = false := hsent
            exact absurd (ha.symm.trans (hab.trans hb)) (by decide)
          | succ j => exact ⟨j, hline, by rwa [sentWithin_cons, if_pos hab] at hsent⟩
      · rw [if_neg hab]
        cases a with
        | false =>
          have hb : b = true := by simpa using hab
          exact iff_of_true rfl ⟨0, congrArg some hb, rfl⟩
        | true =>
          refine iff_of_false (by simp) ?_
          rintro ⟨j, hline, hsent⟩
          cases j with
          | zero => exact Bool.noConfusion hsent
          | succ j => rw [sentWithin_cons, if_neg hab] at hsent; exact Bool.noConfusion hsent

/-- A station withdraws at the first bit that it sends as 1 and that reads 0. -/
theorem contend_withdrew (own heard : List Bool) : ∀ k m, contend k own heard = .withdrew m →
    ∃ j, m = k + j ∧ own[j]? = some true ∧ heard[j]? = some false ∧ ∀ i, i < j → own[i]? = heard[i]? := by
  induction own generalizing heard with
  | nil => intro k m h; simp [contend] at h
  | cons a own ih =>
    intro k m h
    cases heard with
    | nil => simp [contend] at h
    | cons b heard =>
      rw [contend] at h
      by_cases hab : a = b
      · rw [if_pos hab] at h
        obtain ⟨j, hm, hown, hline, hbefore⟩ := ih heard (k + 1) m h
        refine ⟨j + 1, by omega, hown, hline, fun i hi => ?_⟩
        cases i with
        | zero => exact congrArg some hab
        | succ i => exact hbefore i (by omega)
      · rw [if_neg hab] at h
        cases a with
        | false => simp at h
        | true =>
          have hb : b = false := by simpa using hab
          obtain rfl : k = m := by simpa using h
          exact ⟨0, rfl, rfl, congrArg some hb, by simp⟩

theorem contend_won_iff (own heard : List Bool) (h : own.length = heard.length) :
    ∀ k, contend k own heard = .won ↔ own = heard := by
  induction own generalizing heard with
  | nil => intro k; simp [contend, List.eq_nil_of_length_eq_zero h.symm]
  | cons a own ih =>
    intro k
    cases heard with
    | nil => simp at h
    | cons b heard =>
      rw [contend]
      by_cases hab : a = b
      · rw [if_pos hab, ih heard (by simpa using h)]
        simp [hab]
      · rw [if_neg hab]
        cases a <;> simp [hab]

section
variable {n : Nat} {v heard : BitVec n}

theorem contend_bits_won_iff : contend 0 (lineBits v) (lineBits heard) = .won ↔ v = heard := by
  rw [contend_won_iff _ _ (by rw [lineBits_length, lineBits_length])]
  exact ⟨lineBits_inj, congrArg lineBits⟩

theorem contend_bits_withdrew {m : Nat} (h : contend 0 (lineBits v) (lineBits heard) = .withdrew m) :
    m < n ∧ heard.getMsbD m = false ∧ v.getMsbD m = true ∧ ∀ i, i < m → heard.getMsbD i = v.getMsbD i := by
  obtain ⟨j, hm, hown, hline, hbefore⟩ := contend_withdrew _ _ _ _ h
  obtain rfl : m = j := hm.trans (Nat.zero_add j)
  obtain ⟨hlt, hv⟩ := lineBits_eq_some_iff.1 hown
  refine ⟨hlt, (lineBits_eq_some_iff.1 hline).2, hv, fun i hi => ?_⟩
  have hbit := hbefore i hi
  rw [lineBits_getElem?_of_lt (hi.trans hlt), lineBits_getElem?_of_lt (hi.trans hlt)] at hbit
  exact (Option.some.inj hbit).symm

theorem contend_bits_driverFault_iff : contend 0 (lineBits v) (lineBits heard) = .driverFault
    ↔ ∃ j, j < n ∧ heard.getMsbD j = true ∧ sentWithin (lineBits v) (lineBits heard) j = false := by
  rw [contend_driverFault_iff]
  simp only [lineBits_eq_some_iff, and_assoc]

end

/-! ### The bits sent, slot by slot (R7, R8, R9, R10, R27, R38) -/

theorem exists_lt_add (m n : Nat) (P : Nat → Prop) :
    (∃ j, j < m + n ∧ P j) ↔ (∃ j, j < m ∧ P j) ∨ ∃ j, j < n ∧ P (m + j) := by
  constructor
  · rintro ⟨j, hj, h⟩
    by_cases hm : j < m
    · exact .inl ⟨j, hm, h⟩
    · exact .inr ⟨j - m, by omega, by rwa [Nat.add_sub_cancel' (Nat.le_of_not_lt hm)]⟩
  · rintro (⟨j, hj, h⟩ | ⟨j, hj, h⟩)
    · exact ⟨j, by omega, h⟩
    · exact ⟨m + j, by omega, h⟩

/-- The slot at index `slot` reads 1 where the station sends 0. -/
def BitFault (number : BitVec 5) (o : Offers) (r : Round) (slot : Nat) : Prop :=
  (sampledSlots r)[slot]? = some true ∧ sentBit number o ((sampledSlots r).take slot) (slot + 1) = false

section
variable (number : BitVec 5) (o : Offers) (r : Round)

theorem sampledSlots_kind {j : Nat} (h : j < 3) : (sampledSlots r)[j]? = (lineBits (kindCode r.kind))[j]? := by
  rw [sampledSlots, List.append_assoc, List.getElem?_append_left (by rw [lineBits_length]; exact h)]

theorem sampledSlots_take_kind {j : Nat} (h : j ≤ 3) : (sampledSlots r).take j = (lineBits (kindCode r.kind)).take j := by
  rw [sampledSlots, List.append_assoc, List.take_append_of_le_length (by rw [lineBits_length]; exact h)]

theorem sampledSlots_body (j : Nat) : (sampledSlots r)[5 + j]? = (lineBits r.body)[j]? := by
  rw [Nat.add_comm]; rfl

theorem sampledSlots_take_body (j : Nat) : ((sampledSlots r).take (5 + j)).drop 5 = (lineBits r.body).take j := by
  rw [Nat.add_comm]; rfl

theorem sampledKind_sampledSlots (j : Nat) : sampledKind ((sampledSlots r).take (5 + j)) = kindCode r.kind := by
  have hsampled : sampledKind ((sampledSlots r).take (5 + j)) = BitVec.ofBool ((kindCode r.kind).getMsbD 0)
      ++ BitVec.ofBool ((kindCode r.kind).getMsbD 1) ++ BitVec.ofBool ((kindCode r.kind).getMsbD 2) := by
    rw [Nat.add_comm]; rfl
  rw [hsampled]
  cases r.kind <;> rfl

theorem bitFault_kind_iff {j : Nat} (h : j < 3) : BitFault number o r j ↔ ∃ k, offeredKind o.kind = some k
    ∧ (kindCode r.kind).getMsbD j = true
    ∧ sentWithin (lineBits (kindCode k)) (lineBits (kindCode r.kind)) j = false := by
  have hsent : sentBit number o ((sampledSlots r).take j) (j + 1) = match offeredKind o.kind with
      | some k => sentWithin (lineBits (kindCode k)) (lineBits (kindCode r.kind)) j
      | none => true := by
    rw [sentBit, if_pos (show j + 1 ≤ 3 by omega), sampledSlots_take_kind r h.le]
    cases offeredKind o.kind with
    | none => rfl
    | some k => exact sentWithin_take _ _ le_rfl
  rw [BitFault, hsent, sampledSlots_kind r h, lineBits_eq_some_iff]
  cases offeredKind o.kind with
  | none => simp
  | some k => simp [h]

theorem bitFault_alert_iff : BitFault number o r 3 ↔ o.banner.alert = true ∧ r.banner.alert = false := by
  have hline : (sampledSlots r)[3]? = some (!r.banner.alert) := rfl
  have hsent : sentBit number o ((sampledSlots r).take 3) (3 + 1) = !o.banner.alert := rfl
  rw [BitFault, hline, hsent]
  cases o.banner.alert <;> cases r.banner.alert <;> decide

theorem bitFault_stay_iff : BitFault number o r 4 ↔ o.banner.stay = true ∧ r.banner.stay = false := by
  have hline : (sampledSlots r)[4]? = some (!r.banner.stay) := rfl
  have hsent : sentBit number o ((sampledSlots r).take 4) (4 + 1) = !o.banner.stay := rfl
  rw [BitFault, hline, hsent]
  cases o.banner.stay <;> cases r.banner.stay <;> decide

theorem bitFault_body_iff {j : Nat} (h : j < 32) : BitFault number o r (5 + j) ↔ r.body.getMsbD j = true
    ∧ sentBodyBit number o (kindCode r.kind) ((lineBits r.body).take j) j = false := by
  have hsent : sentBit number o ((sampledSlots r).take (5 + j)) (5 + j + 1)
      = sentBodyBit number o (kindCode r.kind) ((lineBits r.body).take j) j := by
    rw [sentBit, if_neg (by omega), if_neg (by omega), if_neg (by omega), sampledKind_sampledSlots,
      sampledSlots_take_body, show 5 + j + 1 - 6 = j by omega]
  rw [BitFault, hsent, sampledSlots_body, lineBits_eq_some_iff]
  simp [h]

/-- A driver fault in some slot of the round: the kind, a flag, or the body. -/
theorem exists_bitFault_iff : (∃ slot, slot < 37 ∧ BitFault number o r slot)
    ↔ (∃ k, offeredKind o.kind = some k
        ∧ contend 0 (lineBits (kindCode k)) (lineBits (kindCode r.kind)) = .driverFault)
      ∨ bannerFault o r = true
      ∨ ∃ j, j < 32 ∧ r.body.getMsbD j = true
        ∧ sentBodyBit number o (kindCode r.kind) ((lineBits r.body).take j) j = false := by
  have hkind : (∃ j, j < 3 ∧ BitFault number o r j) ↔ ∃ k, offeredKind o.kind = some k
      ∧ contend 0 (lineBits (kindCode k)) (lineBits (kindCode r.kind)) = .driverFault := by
    simp only [contend_bits_driverFault_iff]
    constructor
    · rintro ⟨j, hj, h⟩
      obtain ⟨k, hk, hheard, hsent⟩ := (bitFault_kind_iff number o r hj).1 h
      exact ⟨k, hk, j, hj, hheard, hsent⟩
    · rintro ⟨k, hk, j, hj, hheard, hsent⟩
      exact ⟨j, hj, (bitFault_kind_iff number o r hj).2 ⟨k, hk, hheard, hsent⟩⟩
  have hflags : (∃ j, j < 2 ∧ BitFault number o r (3 + j)) ↔ bannerFault o r = true := by
    have hfirst : BitFault number o r (3 + 0) ↔ _ := bitFault_alert_iff number o r
    have hsecond : BitFault number o r (3 + 1) ↔ _ := bitFault_stay_iff number o r
    simp only [bannerFault, Bool.or_eq_true, Bool.and_eq_true, Bool.not_eq_true']
    rw [← hfirst, ← hsecond]
    constructor
    · rintro ⟨j, hj, h⟩
      interval_cases j
      · exact .inl h
      · exact .inr h
    · rintro (h | h)
      · exact ⟨0, by decide, h⟩
      · exact ⟨1, by decide, h⟩
  have hbody : (∃ j, j < 32 ∧ BitFault number o r (5 + j)) ↔ ∃ j, j < 32 ∧ r.body.getMsbD j = true
      ∧ sentBodyBit number o (kindCode r.kind) ((lineBits r.body).take j) j = false :=
    exists_congr fun j => and_congr_right fun hj => bitFault_body_iff number o r hj
  rw [← hkind, ← hflags, ← hbody, ← or_assoc, ← exists_lt_add, ← exists_lt_add]

/-! ### Contributions of the body -/

variable {number o r}

theorem fieldFault_iff {len lo skip : Nat} (own : BitVec len) (b : Body) (h : skip + len + lo = 32) :
    fieldFault own (b.extractLsb' lo len) = true ↔ ∃ j, j < len ∧ b.getMsbD (skip + j) = true
      ∧ sentWithin (lineBits own) ((lineBits b).drop skip) j = false := by
  rw [fieldFault, beq_iff_eq, contend_bits_driverFault_iff]
  refine exists_congr fun j => and_congr_right fun hj => ?_
  rw [getMsbD_field b h hj, lineBits_field b h, sentWithin_take _ _ hj.le]

/-- The bit sent in the body of an INCIDENT round by an offerer of one, field by field (R10, R77). -/
theorem sentBodyBit_incident {f : IncidentOffer} (ho : o.kind = .incident f) (body : List Bool) (j : Nat) :
    (j < 16 → sentBodyBit number o 0 body j = sentWithin (lineBits (~~~f.number)) body j)
    ∧ (j < 4 → sentBodyBit number o 0 body (16 + j) = sentWithin (lineBits f.preDepth) (body.drop 16) j)
    ∧ (j < 4 → sentBodyBit number o 0 body (20 + j) = sentWithin (lineBits (~~~f.postCode)) (body.drop 20) j)
    ∧ sentBodyBit number o 0 body (24 + j) = sentWithin (lineBits f.origin) (body.drop 24) j := by
  have hsent (k : Nat) : sentBodyBit number o 0 body k
      = if k < 16 then sentWithin (lineBits (~~~f.number)) body k
        else if k < 20 then sentWithin (lineBits f.preDepth) (body.drop 16) (k - 16)
        else if k < 24 then sentWithin (lineBits (~~~f.postCode)) (body.drop 20) (k - 20)
        else sentWithin (lineBits f.origin) (body.drop 24) (k - 24) := by
    rw [sentBodyBit, if_pos rfl, ho]
  refine ⟨fun hj => ?_, fun hj => ?_, fun hj => ?_, ?_⟩
  · rw [hsent, if_pos hj]
  · rw [hsent, if_neg (by omega), if_pos (by omega), Nat.add_sub_cancel_left]
  · rw [hsent, if_neg (by omega), if_neg (by omega), if_pos (by omega), Nat.add_sub_cancel_left]
  · rw [hsent, if_neg (by omega), if_neg (by omega), if_neg (by omega), Nat.add_sub_cancel_left]

end

end Sys2Proof.Machine
end

section
/-!
An offer's outcome and the driver fault (O10), from the contests of `sentBit` slot by slot.
-/

namespace Sys2Proof.Machine

/-! ### The body's contributions, by the kind read -/

section
variable (number : BitVec 5) (o : Offers) (b : Body)

/-- Some body slot reads 1 where the station sends 0, in a round of this kind. -/
def BodyFault (k : Kind) : Prop :=
  ∃ j, j < 32 ∧ b.getMsbD j = true ∧ sentBodyBit number o (kindCode k) ((lineBits b).take j) j = false

variable {number o b}

theorem not_bodyFault_of_silent {k : Kind} (h : ∀ body j, sentBodyBit number o (kindCode k) body j = true) :
    ¬BodyFault number o b k := by
  rintro ⟨j, -, -, hsent⟩
  rw [h] at hsent
  exact Bool.noConfusion hsent

theorem bodyFault_incident_iff {f : IncidentOffer} (ho : o.kind = .incident f) : BodyFault number o b .incident
    ↔ ((fieldFault (~~~f.number) (b.extractLsb' 16 16) = true ∨ fieldFault f.preDepth (b.extractLsb' 12 4) = true)
      ∨ fieldFault (~~~f.postCode) (b.extractLsb' 8 4) = true) ∨ fieldFault f.origin (b.extractLsb' 0 8) = true := by
  have hfield {len lo : Nat} (skip : Nat) (own : BitVec len) (h : skip + len + lo = 32)
      (hsent : ∀ j, j < len → sentBodyBit number o (kindCode .incident) ((lineBits b).take (skip + j)) (skip + j)
        = sentWithin (lineBits own) (((lineBits b).take (skip + j)).drop skip) j) :
      (∃ j, j < len ∧ b.getMsbD (skip + j) = true
        ∧ sentBodyBit number o (kindCode .incident) ((lineBits b).take (skip + j)) (skip + j) = false)
      ↔ fieldFault own (b.extractLsb' lo len) = true := by
    rw [fieldFault_iff own b h]
    refine exists_congr fun j => and_congr_right fun hj => ?_
    rw [hsent j hj, List.drop_take, Nat.add_sub_cancel_left, sentWithin_take _ _ le_rfl]
  have hnumber := hfield 0 (~~~f.number) (lo := 16) rfl fun j hj => by
    rw [Nat.zero_add]; exact (sentBodyBit_incident ho _ j).1 hj
  simp only [Nat.zero_add] at hnumber
  have hdepth := hfield 16 f.preDepth (lo := 12) rfl fun j hj => (sentBodyBit_incident ho _ j).2.1 hj
  have hcode := hfield 20 (~~~f.postCode) (lo := 8) rfl fun j hj => (sentBodyBit_incident ho _ j).2.2.1 hj
  have horigin := hfield 24 f.origin (lo := 0) rfl fun j _ => (sentBodyBit_incident ho _ j).2.2.2
  exact (exists_lt_add 24 8 _).trans (or_congr ((exists_lt_add 20 4 _).trans (or_congr
    ((exists_lt_add 16 4 _).trans (or_congr hnumber hdepth)) hcode)) horigin)

theorem sentBodyBit_defend (body : List Bool) :
    sentBodyBit number o 1 body 29 = !(o.member && body.take 5 == lineBits number) := rfl

theorem sentBodyBit_probe {code : BitVec 16} (ho : o.kind = .probe code) (body : List Bool) {j : Nat} (h : j < 29) :
    sentBodyBit number o 1 body j = sentWithin (lineBits (probeBits number code)) body j := by
  rw [sentBodyBit, if_neg (by decide), if_pos rfl, if_neg h.ne, ho]
  exact if_pos h

theorem sentBodyBit_probe_silent (body : List Bool) {j : Nat} (h : (∀ code, o.kind ≠ .probe code) ∨ 30 ≤ j) (hj : j ≠ 29) :
    sentBodyBit number o 1 body j = true := by
  rw [sentBodyBit, if_neg (by decide), if_pos rfl, if_neg hj]
  cases ho : o.kind with
  | probe code => exact if_neg (by have := h.resolve_left fun hn => hn code ho; omega)
  | _ => rfl

theorem sentBodyBit_roll (body : List Bool) (j : Nat) :
    sentBodyBit number o 2 body j = (!o.member || (rollBits number o.storeFull).getMsbD j) := rfl

theorem sentBodyBit_reply {rep : Reply} (ho : o.kind = .reply rep) (body : List Bool) (j : Nat) :
    sentBodyBit number o 4 body j = sentWithin (lineBits (replyBody number rep)) body j := by
  rw [sentBodyBit, if_neg (by decide), if_neg (by decide), if_neg (by decide), if_pos rfl, ho]

theorem sentBodyBit_reply_silent (ho : ∀ rep, o.kind ≠ .reply rep) (body : List Bool) (j : Nat) :
    sentBodyBit number o 4 body j = true := by
  rw [sentBodyBit, if_neg (by decide), if_neg (by decide), if_neg (by decide), if_pos rfl]
  cases hk : o.kind with
  | reply rep => exact absurd hk (ho rep)
  | _ => rfl

theorem sentBodyBit_incident_silent (ho : ∀ f, o.kind ≠ .incident f) (body : List Bool) (j : Nat) :
    sentBodyBit number o 0 body j = true := by
  rw [sentBodyBit, if_pos rfl]
  cases hk : o.kind with
  | incident f => exact absurd hk (ho f)
  | _ => rfl

/-- The DEFEND slot of a member reads 1 although its number was probed (R27). -/
theorem defendFault_iff : (b.getMsbD 29 = true
      ∧ sentBodyBit number o (kindCode .probe) ((lineBits b).take 29) 29 = false)
    ↔ (o.member && probeNumber b == number && !defendPulled b) = true := by
  have hprobed : ((lineBits b).take 29).take 5 = lineBits (probeNumber b) := by
    rw [List.take_take, probeNumber, lineBits_field b (skip := 0) rfl]; rfl
  have hsame : (lineBits (probeNumber b) == lineBits number) = (probeNumber b == number) := by
    rw [Bool.eq_iff_iff, beq_iff_eq, beq_iff_eq]
    exact ⟨lineBits_inj, congrArg lineBits⟩
  rw [show kindCode .probe = 1 from rfl, sentBodyBit_defend, hprobed, hsame, defendPulled]
  cases o.member <;> cases probeNumber b == number <;> cases b.getMsbD 29 <;> simp

theorem bodyFault_probe_iff : BodyFault number o b .probe
    ↔ (∃ code, o.kind = .probe code
        ∧ contend 0 (lineBits (probeBits number code)) (lineBits (b.extractLsb' 3 29)) = .driverFault)
      ∨ (o.member && probeNumber b == number && !defendPulled b) = true := by
  have hoffered : (∃ j, j < 29 ∧ b.getMsbD j = true
      ∧ sentBodyBit number o (kindCode .probe) ((lineBits b).take j) j = false) ↔ ∃ code, o.kind = .probe code
        ∧ contend 0 (lineBits (probeBits number code)) (lineBits (b.extractLsb' 3 29)) = .driverFault := by
    have hbit {j : Nat} (hj : j < 29) : (b.extractLsb' 3 29).getMsbD j = b.getMsbD j := by
      rw [getMsbD_field b (skip := 0) rfl hj, Nat.zero_add]
    have hsent (own : BitVec 29) {j : Nat} (hj : j < 29) :
        sentWithin (lineBits own) (lineBits (b.extractLsb' 3 29)) j = sentWithin (lineBits own) (lineBits b) j := by
      rw [lineBits_field b (skip := 0) rfl, List.drop_zero, sentWithin_take _ _ hj.le]
    constructor
    · rintro ⟨j, hj, hheard, hfault⟩
      by_cases ho : ∃ code, o.kind = .probe code
      · obtain ⟨code, ho⟩ := ho
        refine ⟨code, ho, contend_bits_driverFault_iff.2 ⟨j, hj, (hbit hj).trans hheard, ?_⟩⟩
        rw [hsent _ hj, ← hfault, show kindCode .probe = 1 from rfl, sentBodyBit_probe ho _ hj, sentWithin_take _ _ le_rfl]
      · rw [show kindCode .probe = 1 from rfl, sentBodyBit_probe_silent _ (.inl (not_exists.1 ho)) hj.ne] at hfault
        exact Bool.noConfusion hfault
    · rintro ⟨code, ho, hfault⟩
      obtain ⟨j, hj, hheard, hsentj⟩ := contend_bits_driverFault_iff.1 hfault
      refine ⟨j, hj, (hbit hj).symm.trans hheard, ?_⟩
      rw [show kindCode .probe = 1 from rfl, sentBodyBit_probe ho _ hj, sentWithin_take _ _ le_rfl, ← hsent _ hj, hsentj]
  have hlast : (∃ j, j < 2 ∧ b.getMsbD (30 + j) = true
      ∧ sentBodyBit number o (kindCode .probe) ((lineBits b).take (30 + j)) (30 + j) = false) ↔ False := by
    refine iff_of_false ?_ id
    rintro ⟨j, hj, -, hfault⟩
    rw [show kindCode .probe = 1 from rfl, sentBodyBit_probe_silent _ (.inr (by omega)) (by omega)] at hfault
    exact Bool.noConfusion hfault
  have hdefend : (∃ j, j < 1 ∧ b.getMsbD (29 + j) = true
      ∧ sentBodyBit number o (kindCode .probe) ((lineBits b).take (29 + j)) (29 + j) = false)
      ↔ (o.member && probeNumber b == number && !defendPulled b) = true := by
    rw [← defendFault_iff]
    exact ⟨fun ⟨j, hj, h⟩ => by obtain rfl : j = 0 := by omega
                                exact h, fun h => ⟨0, by decide, h⟩⟩
  exact (exists_lt_add 30 2 _).trans ((or_congr ((exists_lt_add 29 1 _).trans (or_congr hoffered hdefend)) hlast).trans
    (iff_of_eq (or_false _)))

theorem bodyFault_roll_iff : BodyFault number o b .roll
    ↔ (o.member && (~~~(rollBits number o.storeFull) &&& b) != 0) = true := by
  have hbits : (~~~(rollBits number o.storeFull) &&& b) ≠ 0
      ↔ ∃ j, j < 32 ∧ b.getMsbD j = true ∧ (rollBits number o.storeFull).getMsbD j = false := by
    constructor
    · intro h
      by_contra hnone
      push Not at hnone
      refine h (BitVec.eq_of_getMsbD_eq fun j hj => ?_)
      cases hb : b.getMsbD j with
      | false => simp [hb]
      | true => simp [hb, hnone j hj hb]
    · rintro ⟨j, hj, hb, hr⟩ h
      have hbit := congrArg (BitVec.getMsbD · j) h
      simp [hb, hr, hj] at hbit
  rw [Bool.and_eq_true, bne_iff_ne, hbits]
  unfold BodyFault
  rw [show kindCode .roll = 2 from rfl]
  simp only [sentBodyBit_roll]
  cases o.member <;> simp

theorem bodyFault_reply_iff : BodyFault number o b .reply ↔ ∃ rep, o.kind = .reply rep
    ∧ contend 0 (lineBits (replyBody number rep)) (lineBits b) = .driverFault := by
  by_cases ho : ∃ rep, o.kind = .reply rep
  · obtain ⟨rep, ho⟩ := ho
    rw [show (∃ rep, o.kind = .reply rep ∧ contend 0 (lineBits (replyBody number rep)) (lineBits b) = .driverFault)
        ↔ contend 0 (lineBits (replyBody number rep)) (lineBits b) = .driverFault by simp [ho],
      contend_bits_driverFault_iff]
    refine exists_congr fun j => and_congr_right fun hj => and_congr_right fun _ => ?_
    rw [show kindCode .reply = 4 from rfl, sentBodyBit_reply ho, sentWithin_take _ _ le_rfl]
  · have hno := not_exists.1 ho
    exact iff_of_false (not_bodyFault_of_silent (sentBodyBit_reply_silent hno)) fun ⟨rep, h, _⟩ => hno rep h

end

/-! ### The outcome of an offer (R7, R9, R12) -/

section
variable {number : BitVec 5} {o : Offers} {r : Round}

theorem kindCode_inj {k l : Kind} (h : kindCode k = kindCode l) : k = l := by
  revert h
  cases k <;> cases l <;> decide

/-- The body of a kind that no station adds to. -/
theorem bodyFault_of_unanswered {k : Kind} (h : k = .order ∨ k = .epoch ∨ k = .unassigned ∨ k = .quiet) (b : Body) :
    ¬BodyFault number o b k := by
  rcases h with rfl | rfl | rfl | rfl <;> exact not_bodyFault_of_silent fun _ _ => rfl

/-- A body slot is at fault in a contribution that is no offer's, or in the body of the offer. -/
theorem bodyFault_iff : BodyFault number o r.body r.kind ↔ contributionFault number o r = true
    ∨ offeredKind o.kind = some r.kind ∧ bodyContest number o.kind r.body = .driverFault := by
  have hunanswered (h : r.kind = .order ∨ r.kind = .epoch ∨ r.kind = .unassigned ∨ r.kind = .quiet) :
      BodyFault number o r.body r.kind ↔ contributionFault number o r = true
        ∨ offeredKind o.kind = some r.kind ∧ bodyContest number o.kind r.body = .driverFault := by
    refine iff_of_false (bodyFault_of_unanswered h _) ?_
    rcases h with h | h | h | h <;> simp only [contributionFault, h] <;> cases o.kind <;> simp [offeredKind]
  cases hr : r.kind with
  | incident =>
    by_cases ho : ∃ f, o.kind = .incident f
    · obtain ⟨f, ho⟩ := ho
      rw [bodyFault_incident_iff ho]
      simp [contributionFault, hr, ho, bodyContest]
    · have hno := not_exists.1 ho
      refine iff_of_false (not_bodyFault_of_silent (sentBodyBit_incident_silent hno)) ?_
      cases hk : o.kind with
      | incident f => exact absurd hk (hno f)
      | _ => simp [contributionFault, hr, hk, offeredKind]
  | probe =>
    rw [bodyFault_probe_iff, or_comm]
    refine or_congr (by simp only [contributionFault, hr]) ?_
    cases hk : o.kind <;> simp [offeredKind, bodyContest]
  | roll =>
    rw [bodyFault_roll_iff]
    cases hk : o.kind <;> simp [contributionFault, hr, offeredKind, bodyContest]
  | reply =>
    rw [bodyFault_reply_iff]
    cases hk : o.kind <;> simp [contributionFault, hr, offeredKind, bodyContest]
  | order => exact hr ▸ hunanswered (.inl hr)
  | epoch => exact hr ▸ hunanswered (.inr (.inl hr))
  | unassigned => exact hr ▸ hunanswered (.inr (.inr (.inl hr)))
  | quiet => exact hr ▸ hunanswered (.inr (.inr (.inr hr)))

/-- The outcome of an offer that meets no fault of a flag or a contribution. -/
theorem settleOffer_of_offered {k : Kind} (hb : bannerFault o r = false) (hc : contributionFault number o r = false)
    (hk : offeredKind o.kind = some k) : settleOffer number o r
      = match contend 0 (lineBits (kindCode k)) (lineBits (kindCode r.kind)) with
        | .driverFault => none
        | .withdrew _ => some .lostKind
        | .won =>
          match bodyContest number o.kind r.body with
          | .driverFault => none
          | .withdrew k => some (.withdrew k)
          | .won => some .won := by
  rw [settleOffer, hb, hc, hk]
  rfl

theorem settleOffer_of_fault (h : bannerFault o r = true ∨ contributionFault number o r = true) :
    settleOffer number o r = none := by
  rw [settleOffer, if_pos (by simpa using h)]

theorem settleOffer_of_no_offer (hb : bannerFault o r = false) (hc : contributionFault number o r = false)
    (hk : offeredKind o.kind = none) : settleOffer number o r = some .none := by
  rw [settleOffer, hb, hc, hk]
  rfl

theorem kindContest_won_iff {k l : Kind} :
    contend 0 (lineBits (kindCode k)) (lineBits (kindCode l)) = .won ↔ k = l := by
  rw [contend_bits_won_iff]
  exact ⟨kindCode_inj, congrArg kindCode⟩

theorem settleOffer_eq_none_iff : settleOffer number o r = none ↔ bannerFault o r = true
    ∨ contributionFault number o r = true
    ∨ (∃ k, offeredKind o.kind = some k
        ∧ contend 0 (lineBits (kindCode k)) (lineBits (kindCode r.kind)) = .driverFault)
    ∨ offeredKind o.kind = some r.kind ∧ bodyContest number o.kind r.body = .driverFault := by
  cases hb : bannerFault o r with
  | true => exact iff_of_true (settleOffer_of_fault (.inl hb)) (.inl rfl)
  | false =>
  cases hc : contributionFault number o r with
  | true => exact iff_of_true (settleOffer_of_fault (.inr hc)) (.inr (.inl rfl))
  | false =>
  cases hk : offeredKind o.kind with
  | none => simp [settleOffer_of_no_offer hb hc hk]
  | some k =>
    rw [settleOffer_of_offered hb hc hk]
    have hwon := kindContest_won_iff (k := k) (l := r.kind)
    cases hcontest : contend 0 (lineBits (kindCode k)) (lineBits (kindCode r.kind)) with
    | driverFault => simp [hcontest]
    | withdrew m =>
      have hne : k ≠ r.kind := fun h => by rw [hwon.2 h] at hcontest; exact Contest.noConfusion hcontest
      simp [hcontest, hne]
    | won =>
      obtain rfl : k = r.kind := hwon.1 hcontest
      cases hbody : bodyContest number o.kind r.body <;> simp [hcontest]

/-- The outcomes an offer can have. -/
theorem settleOffer_cases {out : OfferOutcome} (h : settleOffer number o r = some out) :
    (offeredKind o.kind = none ∧ out = .none)
    ∨ (∃ k m, offeredKind o.kind = some k
        ∧ contend 0 (lineBits (kindCode k)) (lineBits (kindCode r.kind)) = .withdrew m ∧ out = .lostKind)
    ∨ offeredKind o.kind = some r.kind ∧ (bodyContest number o.kind r.body = .won ∧ out = .won
        ∨ ∃ m, bodyContest number o.kind r.body = .withdrew m ∧ out = .withdrew m) := by
  cases hb : bannerFault o r with
  | true => rw [settleOffer_of_fault (.inl hb)] at h; exact absurd h (by simp)
  | false =>
  cases hc : contributionFault number o r with
  | true => rw [settleOffer_of_fault (.inr hc)] at h; exact absurd h (by simp)
  | false =>
  cases hk : offeredKind o.kind with
  | none =>
    rw [settleOffer_of_no_offer hb hc hk] at h
    exact .inl ⟨rfl, (Option.some.inj h).symm⟩
  | some k =>
    rw [settleOffer_of_offered hb hc hk] at h
    cases hcontest : contend 0 (lineBits (kindCode k)) (lineBits (kindCode r.kind)) with
    | driverFault => rw [hcontest] at h; exact absurd h (by simp)
    | withdrew m =>
      rw [hcontest] at h
      exact .inr (.inl ⟨k, m, rfl, hcontest, (Option.some.inj h).symm⟩)
    | won =>
      rw [hcontest] at h
      refine .inr (.inr ⟨congrArg some (kindContest_won_iff.1 hcontest), ?_⟩)
      cases hbody : bodyContest number o.kind r.body with
      | driverFault => rw [hbody] at h; exact absurd h (by simp)
      | withdrew m => rw [hbody] at h; exact .inr ⟨m, rfl, (Option.some.inj h).symm⟩
      | won => rw [hbody] at h; exact .inl ⟨rfl, (Option.some.inj h).symm⟩

/-- A kind that loses its contest loses it to a code that is smaller (R7). -/
theorem kindCode_lt_of_withdrew {k l : Kind} {m : Nat}
    (h : contend 0 (lineBits (kindCode k)) (lineBits (kindCode l)) = .withdrew m) : kindCode l < kindCode k := by
  by_contra hle
  revert h
  cases k <;> cases l <;> revert hle <;> simp [kindCode, lineBits, contend, List.range, List.range.loop]

theorem outcome_of_no_offer {out : OfferOutcome} (h : settleOffer number o r = some out) (hk : offeredKind o.kind = none) :
    out = .none := by
  rcases settleOffer_cases h with ⟨-, hout⟩ | ⟨k, m, hk', -, -⟩ | ⟨hk', -⟩
  · exact hout
  · rw [hk] at hk'; exact absurd hk' (by simp)
  · rw [hk] at hk'; exact absurd hk' (by simp)

theorem outcome_of_other_kind {out : OfferOutcome} {k : Kind} (h : settleOffer number o r = some out)
    (hk : offeredKind o.kind = some k) (hne : r.kind ≠ k) : out = .lostKind ∧ kindCode r.kind < kindCode k := by
  rcases settleOffer_cases h with ⟨hk', -⟩ | ⟨l, m, hk', hcontest, hout⟩ | ⟨hk', -⟩
  · rw [hk] at hk'; exact absurd hk' (by simp)
  · obtain rfl : k = l := Option.some.inj (hk.symm.trans hk')
    exact ⟨hout, kindCode_lt_of_withdrew hcontest⟩
  · exact absurd (Option.some.inj (hk'.symm.trans hk)) hne

theorem offered_of_won {out : OfferOutcome} (h : settleOffer number o r = some out) (hwon : out = .won) :
    offeredKind o.kind = some r.kind := by
  rcases settleOffer_cases h with ⟨-, hout⟩ | ⟨k, m, -, -, hout⟩ | ⟨hk, -⟩
  · rw [hwon] at hout; cases hout
  · rw [hwon] at hout; cases hout
  · exact hk

theorem outcome_of_same_kind {out : OfferOutcome} (h : settleOffer number o r = some out)
    (hk : offeredKind o.kind = some r.kind) : bodyContest number o.kind r.body = .won ∧ out = .won
      ∨ ∃ m, bodyContest number o.kind r.body = .withdrew m ∧ out = .withdrew m := by
  rcases settleOffer_cases h with ⟨hk', -⟩ | ⟨l, m, hk', hcontest, -⟩ | ⟨-, hbody⟩
  · rw [hk] at hk'; exact absurd hk' (by simp)
  · obtain rfl : r.kind = l := Option.some.inj (hk.symm.trans hk')
    rw [kindContest_won_iff.2 rfl] at hcontest
    exact Contest.noConfusion hcontest
  · exact hbody

/-- The outcome of an offer whose body is contested bit by bit. -/
theorem outcome_of_body_contest {out : OfferOutcome} {n : Nat} {own heard : BitVec n} (h : settleOffer number o r = some out)
    (hk : offeredKind o.kind = some r.kind)
    (hbody : bodyContest number o.kind r.body = contend 0 (lineBits own) (lineBits heard)) :
    (out = .won ↔ heard = own) ∧ ∀ j, out = .withdrew j → j < n ∧ heard.getMsbD j = false ∧ own.getMsbD j = true
      ∧ ∀ i, i < j → heard.getMsbD i = own.getMsbD i := by
  have hwon := contend_bits_won_iff (v := own) (heard := heard)
  rcases outcome_of_same_kind h hk with ⟨hc, rfl⟩ | ⟨m, hc, rfl⟩
  · rw [hbody] at hc
    exact ⟨iff_of_true rfl (hwon.1 hc).symm, fun j hj => OfferOutcome.noConfusion hj⟩
  · rw [hbody] at hc
    refine ⟨iff_of_false (by simp) fun heq => ?_, fun j hj => ?_⟩
    · rw [hwon.2 heq.symm] at hc
      exact Contest.noConfusion hc
    · obtain rfl : m = j := by simpa using hj
      exact contend_bits_withdrew hc

theorem settleOffer_eq_none_iff_bitFault : settleOffer number o r = none ↔ ∃ slot, slot < 37
    ∧ (sampledSlots r)[slot]? = some true ∧ sentBit number o ((sampledSlots r).take slot) (slot + 1) = false := by
  have hslots := exists_bitFault_iff number o r
  have hbody := bodyFault_iff (number := number) (o := o) (r := r)
  rw [settleOffer_eq_none_iff]
  refine Iff.trans ?_ hslots.symm
  refine Iff.trans ?_ (or_congr_right (or_congr_right hbody.symm))
  exact (or_congr_right or_left_comm).trans or_left_comm

end

/-! ### Checks (R8, R9, R11) -/

theorem body_split (b : Body) : b.extractLsb' 8 24 ++ b.extractLsb' 0 8 = b :=
  (BitVec.extractLsb'_append_extractLsb'_eq_extractLsb' (start₂ := 8) (start₁ := 0) (len₁ := 8) (len₂ := 24) rfl).trans
    (extract_all b)

theorem probe_split (b : Body) : b.extractLsb' 11 21 ++ b.extractLsb' 3 8 = b.extractLsb' 3 29 :=
  BitVec.extractLsb'_append_extractLsb'_eq_extractLsb' (start₂ := 11) (start₁ := 3) (len₁ := 8) (len₂ := 21) rfl

/-- An appended word determines its parts. -/
theorem append_inj {m n : Nat} {x x' : BitVec m} {y y' : BitVec n} (h : x ++ y = x' ++ y') : x = x' ∧ y = y' := by
  have hlow := congrArg (BitVec.extractLsb' 0 n) h
  have hhigh := congrArg (BitVec.extractLsb' (n + 0) m) h
  rw [extract_append_low, extract_append_low] at hlow
  rw [extract_append_high, extract_append_high, extract_all, extract_all] at hhigh
  exact ⟨hhigh, hlow⟩

theorem check_framed_iff (b : Body) : (crc8 (lineBits (b.extractLsb' 8 24)) == b.extractLsb' 0 8) = true
    ↔ b = framedBody (b.extractLsb' 8 24) := by
  rw [beq_iff_eq, framedBody]
  constructor
  · intro h
    rw [h]
    exact (body_split b).symm
  · intro h
    exact (append_inj ((body_split b).trans h)).2.symm

theorem checkGood_probe_iff (b : Body) : checkGood .probe b = true
    ↔ b.extractLsb' 3 29 = probeBits (b.extractLsb' 27 5) (b.extractLsb' 11 16) := by
  have hcovered : b.extractLsb' 27 5 ++ b.extractLsb' 11 16 = b.extractLsb' 11 21 :=
    BitVec.extractLsb'_append_extractLsb'_eq_extractLsb' rfl
  show (crc8 (lineBits (b.extractLsb' 11 21)) == b.extractLsb' 3 8) = true ↔ _
  rw [beq_iff_eq, probeBits, hcovered, ← probe_split]
  exact ⟨fun h => by rw [h], fun h => (append_inj h).2.symm⟩

/-- A probe sent as it stands checks good. -/
theorem checkGood_of_probeBits {b : Body} {number : BitVec 5} {code : BitVec 16}
    (h : b.extractLsb' 3 29 = probeBits number code) : checkGood .probe b = true := by
  obtain ⟨hcovered, hcheck⟩ := append_inj ((probe_split b).trans h)
  show (crc8 (lineBits (b.extractLsb' 11 21)) == b.extractLsb' 3 8) = true
  rw [beq_iff_eq, hcovered, hcheck]

theorem checkGood_of_framed {b : Body} {covered : BitVec 24} (h : b = framedBody covered) :
    b = framedBody (b.extractLsb' 8 24) := by
  rw [h, framedBody_covered]

/-! ### The driver fault (R12) -/

theorem withdraw_departed (s : State) (c : Cause) : Departed s (s.withdraw c).refreshFault := by constructor <;> rfl

theorem withdraw_spec (s : State) (c : Cause) :
    (s.withdraw c).membership = { s.membership with state := .withdrawn, cause := c }
    ∧ (s.withdraw c).line = s.line.inactive :=
  ⟨congrArg (fun m : Membership => { m with state := .withdrawn, cause := c }) s.depart_membership,
    congrArg Line.inactive s.depart_line⟩

theorem driverFault_of_onLine {s : State} (h : s.onLine = true) : s.driverFault = s.withdraw .driver := if_pos h

theorem driverFaultFound_of_round {s : State} (ha : s.line.align = .aligned) (hr : s.line.round.isSome = true) :
    s.driverFaultFound = s.driverFault := if_pos ⟨ha, hr⟩

theorem roundEnd_of_fault {s : State} {o : Offers} {r : Round} (ha : s.line.align = .aligned) (ho : s.onLine = true)
    (hr : s.line.round = some o) (hf : settleOffer s.membership.number o r = none) (i : StartInputs) :
    s.roundEnd r i = s.driverFault := by
  simp [State.roundEnd, ha, ho, hr, hf]

theorem crc8_append (covered : List Bool) (bit : Bool) : crc8 (covered ++ [bit])
    = if (crc8 covered).msb = bit then crc8 covered <<< 1 else (crc8 covered <<< 1) ^^^ 0x07 :=
  List.foldl_append

/-- Settles O10: a fault by the bits of `settleOffer_eq_none_iff_bitFault`, an outcome by `settleOffer_cases`. -/
theorem driverFaultWithdrawsTheStation : Obligations.DriverFaultWithdrawsTheStation := by
  refine ⟨fun o s hp ha ho hr => ⟨_, exec_driverFault hp, ?fault⟩,
    fun number o r => ⟨settleOffer_eq_none_iff_bitFault, fun out hout => ?outcome⟩,
    fun b => ⟨check_framed_iff b, check_framed_iff b, check_framed_iff b, checkGood_probe_iff b, rfl, rfl, rfl, rfl⟩, rfl,
    crc8_append, fun _ => rfl, fun _ _ => rfl, fun _ _ => rfl, rfl, rfl⟩
  case fault =>
    have hdeparts := withdraw_departed s .driver
    obtain ⟨hring, -, halert, hinputs⟩ := hdeparts.acquisition
    obtain ⟨hstate, -, -⟩ := hdeparts.engine_stands
    obtain ⟨harrays, hstore, -⟩ := hdeparts.keeps
    obtain ⟨hmembership, hline⟩ := withdraw_spec s .driver
    rw [driverFaultFound_of_round ha (by rw [hr]; rfl), driverFault_of_onLine ho]
    refine ⟨hmembership, rfl, ?align, ?round, ?silence, ?count, hring, hstate, harrays, hstore, halert, hinputs,
      hdeparts.of_idle, fun hc => ?capturing, fun r hf => ?bySettling⟩
    case capturing =>
      obtain ⟨hengine, hstaging⟩ := hdeparts.of_capturing hc
      rw [hengine, hstaging]
      exact ⟨rfl, rfl, fun i c h => abandon_of_filling h⟩
    case bySettling =>
      rw [exec_roundCommand r hp, roundEnd_of_fault ha ho hr hf, driverFault_of_onLine ho]
    all_goals rw [State.refreshFault_line, hline]; rfl
  case outcome =>
    have hprobe {code : BitVec 16} (hk : o.kind = .probe code) (hr : r.kind = .probe) :=
      outcome_of_body_contest (own := probeBits number code) (heard := r.body.extractLsb' 3 29) hout (by rw [hk, hr]; rfl)
        (by rw [hk]; rfl)
    have hreply {rep : Reply} (hk : o.kind = .reply rep) (hr : r.kind = .reply) :=
      outcome_of_body_contest (own := replyBody number rep) (heard := r.body) hout (by rw [hk, hr]; rfl) (by rw [hk]; rfl)
    refine ⟨outcome_of_no_offer hout, fun k hk => ⟨?lost, fun hne => (outcome_of_other_kind hout hk hne).2,
      fun heq hflat => ?flat⟩, fun code hk hr => ⟨(hprobe hk hr).1, fun j hj => ?probeWithdrew⟩, fun rep hk hr => hreply hk hr,
      fun hwon => ?good⟩
    case lost =>
      refine ⟨fun hlost heq => ?_, fun hne => (outcome_of_other_kind hout hk hne).1⟩
      rcases outcome_of_same_kind hout (heq ▸ hk) with ⟨-, h⟩ | ⟨m, -, h⟩ <;> rw [hlost] at h <;> cases h
    case flat =>
      have hcontest : bodyContest number o.kind r.body = .won := by
        cases ho : o.kind with
        | probe code => rw [ho] at hk; rcases hflat with rfl | rfl <;> cases hk
        | reply rep => rw [ho] at hk; rcases hflat with rfl | rfl <;> cases hk
        | _ => rfl
      rcases outcome_of_same_kind hout (heq ▸ hk) with ⟨-, h⟩ | ⟨m, h, -⟩
      · exact h
      · rw [hcontest] at h; cases h
    case probeWithdrew =>
      obtain ⟨hlt, hheard, hown, hbefore⟩ := (hprobe hk hr).2 j hj
      have hbit {i : Nat} (hi : i < 29) : (r.body.extractLsb' 3 29).getMsbD i = r.body.getMsbD i := by
        rw [getMsbD_field r.body (skip := 0) rfl hi, Nat.zero_add]
      rw [hbit hlt] at hheard
      exact ⟨hlt, hheard, hown, fun i hi => (hbit (hi.trans hlt)).symm.trans (hbefore i hi)⟩
    case good =>
      have hoffered : offeredKind o.kind = some r.kind := offered_of_won hout hwon
      cases ho : o.kind with
      | none => rw [ho] at hoffered; cases hoffered
      | incident f => rw [ho] at hoffered; rw [← Option.some.inj hoffered]; rfl
      | roll => rw [ho] at hoffered; rw [← Option.some.inj hoffered]; rfl
      | probe code =>
        have hr : r.kind = .probe := by rw [ho] at hoffered; exact (Option.some.inj hoffered).symm
        rw [hr]
        exact checkGood_of_probeBits ((hprobe ho hr).1.1 hwon)
      | reply rep =>
        have hr : r.kind = .reply := by rw [ho] at hoffered; exact (Option.some.inj hoffered).symm
        rw [hr]
        exact (check_framed_iff _).2 (checkGood_of_framed ((hreply ho hr).1.1 hwon))

end Sys2Proof.Machine
end

section
/-!
The mark slot (O11): the offers of the round, the segment begun, and what the station then sends in each slot.
-/

namespace Sys2Proof.Machine

/-! ### The survey's next conversion (R46, R47) -/

section
variable {st : Settings} {q : Sequencer} {p : PassUnderWay}

theorem resumeSurvey_of_entry (hp : q.pass = some p) (h : nextEntry st p ≠ none) :
    resumeSurvey st q = { q with converter := .survey, elapsed := 0 } := by
  rw [resumeSurvey, hp]
  exact if_pos (Option.isSome_iff_ne_none.2 h)

theorem resumeSurvey_of_no_entry (hp : q.pass = some p) (h : nextEntry st p = none) :
    resumeSurvey st q = { q with converter := .idle, elapsed := 0 } := by
  rw [resumeSurvey, hp]
  exact if_neg (by simp [h])

theorem resumeSurvey_keeps (st : Settings) (q : Sequencer) : (resumeSurvey st q).pass = q.pass
    ∧ (resumeSurvey st q).repetition = q.repetition ∧ (resumeSurvey st q).latest = q.latest
    ∧ (resumeSurvey st q).pointer = q.pointer ∧ (resumeSurvey st q).baselines = q.baselines := by
  unfold resumeSurvey
  split
  · split <;> exact ⟨rfl, rfl, rfl, rfl, rfl⟩
  · exact ⟨rfl, rfl, rfl, rfl, rfl⟩

theorem beginSegment_pass (st : Settings) (capture : Bool) (q : Sequencer) :
    (beginSegment st capture q).pass = some ⟨q.pointer, []⟩ := by
  unfold beginSegment
  simp only
  split
  · rfl
  · exact (resumeSurvey_keeps st _).1

theorem beginSegment_of_survey (hr : q.repetition = none) :
    beginSegment st false q = resumeSurvey st { q with pass := some ⟨q.pointer, []⟩ } := by
  unfold beginSegment
  simp [hr]

/-- In a capture round, or with a repetition in flight, the segment waits for the burst (R47, R53, R54). -/
theorem beginSegment_of_burst {capture : Bool} (h : capture = true ∨ q.repetition ≠ none) :
    beginSegment st capture q = { q with pass := some ⟨q.pointer, []⟩ } := by
  unfold beginSegment
  exact if_pos (by rcases h with h | h <;> simp [h, Option.isSome_iff_ne_none])

end

/-! ### The offers of a round (R26, R37, R74, R76, R77, R142, R177) -/

section
variable {s : State}

theorem markSlot_of_aligned (ha : s.line.align = .aligned) (ho : s.onLine = true) (hr : s.line.round = none)
    (code : BitVec 16) : s.markSlot code
      = (((s.setLine { s.line with
            round := some (s.takeOffers code), position := 0, phase := .q1, phaseTime := 0 }).setOrders
          { s.orders with replaced := false }).setSequencer
            (beginSegment s.settings (s.takeOffers code).captureRound s.sequencer)).setStaging
          (if (s.takeOffers code).captureRound then s.staging.updateFilling addBlock else s.staging) :=
  if_pos (by simp [ha, ho, hr])

theorem takeOffers_of_joining (h : s.membership.state = .joining) (code : BitVec 16) :
    (s.takeOffers code).kind = .probe code ∧ (s.takeOffers code).banner = ⟨false, true⟩
    ∧ (s.takeOffers code).member = false ∧ (s.takeOffers code).claims = false := by
  simp [State.takeOffers, State.kindOffer, State.pullsAlert, State.pullsStay, h]

theorem captureRound_iff (code : BitVec 16) : (s.takeOffers code).captureRound = true ↔ s.engine.state = .capturing :=
  beq_iff_eq

theorem hasEmpty_iff (q : Staging) : q.hasEmpty = true ↔ q.slot0 = .empty ∨ q.slot1 = .empty := by
  have hslot (x : Slot) : x.isEmpty = true ↔ x = .empty := by cases x <;> simp [Slot.isEmpty]
  rw [Staging.hasEmpty, Bool.or_eq_true, hslot, hslot]

theorem claimsPlace_iff : s.claimsPlace = true
    ↔ s.engine.state = .idle ∧ s.engine.exhausted = false ∧ (s.staging.slot0 = .empty ∨ s.staging.slot1 = .empty) := by
  rw [State.claimsPlace, Bool.and_eq_true, Bool.and_eq_true, hasEmpty_iff, beq_iff_eq, Bool.not_eq_true']
  exact ⟨fun ⟨⟨h1, h2⟩, h3⟩ => ⟨h1, h3, h2⟩, fun ⟨h1, h3, h2⟩ => ⟨⟨h1, h2⟩, h3⟩⟩

section
variable (h : s.membership.state = .member) (code : BitVec 16)
include h

theorem takeOffers_member : (s.takeOffers code).member = true := beq_iff_eq.2 h

theorem takeOffers_stay : (s.takeOffers code).banner.stay = !s.readyToRest := by
  simp [State.takeOffers, State.pullsStay, h]

theorem takeOffers_alert_iff : (s.takeOffers code).banner.alert = true
    ↔ s.engine.state = .idle ∧ s.monitors.alertPending = true ∧ s.engine.due = false := by
  simp [State.takeOffers, State.pullsAlert, h, and_assoc]

theorem takeOffers_claims : (s.takeOffers code).claims = (s.engine.due && s.claimsPlace) := by
  simp [State.takeOffers, h]

theorem takeOffers_kind_of_due (hd : s.engine.due = true) : (s.takeOffers code).kind = .incident s.incidentOffer := by
  simp [State.takeOffers, State.kindOffer, h, hd]

theorem takeOffers_kind_of_roll (hd : s.engine.due = false) (ht : s.membership.rollTimer = s.settings.rollPeriod) :
    (s.takeOffers code).kind = .roll := by
  simp [State.takeOffers, State.kindOffer, State.wantsRoll, h, hd, ht]

theorem takeOffers_kind_of_outbox (hd : s.engine.due = false) (ht : s.membership.rollTimer ≠ s.settings.rollPeriod) :
    (∀ r, s.orders.outbox = some r → (s.takeOffers code).kind = .reply r)
    ∧ (s.orders.outbox = none → (s.takeOffers code).kind = .none) := by
  constructor
  · intro r hr
    simp [State.takeOffers, State.kindOffer, State.wantsRoll, hd, ht, hr, h]
  · intro hr
    simp [State.takeOffers, State.kindOffer, State.wantsRoll, hd, ht, hr, h]

end

theorem incidentOffer_origin : (s.engine.state = .capturing ∨ lowestTripped s.monitors = none → s.incidentOffer.origin = 255)
    ∧ ∀ i, s.engine.state = .idle → lowestTripped s.monitors = some i →
      s.incidentOffer.origin = BitVec.ofNat 8 (s.membership.number.toNat * 8 + i) := by
  constructor
  · rintro (h | h)
    · simp [State.incidentOffer, h]
    · cases hs : s.engine.state <;> simp [State.incidentOffer, h, hs]
  · intro i hs hi
    simp [State.incidentOffer, hs, hi]

theorem updateFilling_of_filling {q : Staging} {i : SlotId} {c : Construction} (h : q.fillingSlot = some (i, c))
    (f : Construction → Construction) : q.updateFilling f = q.setSlot i (.filling (f c)) := by
  rw [Staging.updateFilling, h]

/-- The conditions of readiness to rest (R176). -/
theorem readyToRest_iff (s : State) : s.readyToRest = true ↔ s.settings.dormancyAllowed = true ∧ s.engine.state = .idle
    ∧ s.engine.due = false ∧ s.monitors.alertPending = false ∧ s.staging.slot0 = .empty ∧ s.staging.slot1 = .empty
    ∧ s.programmer.op = .idle ∧ s.programmer.commit = none ∧ s.programmer.pulses = [] ∧ s.programmer.marks = []
    ∧ s.store.voidQueue = [] ∧ s.store.bank0.erasePending = false ∧ s.store.bank1.erasePending = false
    ∧ s.orders.outbox = none ∧ s.orders.stream = none ∧ s.lock = .locked := by
  have hslot (x : Slot) : x.isEmpty = true ↔ x = .empty := by cases x <;> simp [Slot.isEmpty]
  have hready {x : Slot} (hx : x = .empty) : x.isReady = false := by rw [hx]; rfl
  simp only [State.readyToRest, State.programmerQuiet, State.workWaiting, Staging.allEmpty, Staging.hasReady,
    Bool.and_eq_true, Bool.not_eq_true', Bool.or_eq_false_iff, beq_iff_eq, hslot, Option.isNone_iff_eq_none,
    Option.isSome_eq_false_iff, List.isEmpty_iff, Bool.not_eq_false']
  constructor
  · rintro ⟨⟨⟨⟨⟨⟨⟨⟨h1, h2⟩, h3⟩, h4⟩, h5, h6⟩, h7, ⟨⟨⟨⟨⟨h8, h9⟩, h10⟩, h11⟩, h12⟩, h13⟩, -⟩, h14⟩, h15⟩, h16⟩
    exact ⟨h1, h2, h3, h4, h5, h6, h7, h8, h9, h10, h11, h12, h13, h14, h15, h16⟩
  · rintro ⟨h1, h2, h3, h4, h5, h6, h7, h8, h9, h10, h11, h12, h13, h14, h15, h16⟩
    exact ⟨⟨⟨⟨⟨⟨⟨⟨h1, h2⟩, h3⟩, h4⟩, h5, h6⟩, h7, ⟨⟨⟨⟨⟨h8, h9⟩, h10⟩, h11⟩, h12⟩, h13⟩, hready h5, hready h6⟩, h14⟩, h15⟩, h16⟩

end

/-! ### The LINE pin and the bits sent (R2, R7, R16, R22, R38) -/

section
variable {s : State} {sampled : List Bool}

theorem pullsLine_off (hn : s.line.pattern = none) (h : s.line.align ≠ .aligned ∨ s.onLine = false) :
    s.pullsLine sampled = false := by
  rcases h with h | h <;> simp [State.pullsLine, hn, h]

/-- The wake pattern's three lows (R22). -/
theorem patternLow_iff (n : Nat) :
    patternLow n = true ↔ n < 20000 ∨ (40000 ≤ n ∧ n < 60000) ∨ (80000 ≤ n ∧ n < 100000) := by
  have hpattern : patternLow n = (decide (n < 100000) && n / 20000 % 2 == 0) := rfl
  rw [hpattern, Bool.and_eq_true, decide_eq_true_eq, beq_iff_eq]
  omega

theorem pullsLine_pattern {n : Nat} (hn : s.line.pattern = some n) (h : s.line.align ≠ .aligned) :
    s.pullsLine sampled = patternLow n := by
  simp [State.pullsLine, hn, h]

section
variable (hn : s.line.pattern = none) (ha : s.line.align = .aligned) (ho : s.onLine = true)
include hn ha ho

theorem pullsLine_in_round : (s.line.position = 0 → s.pullsLine sampled = false)
    ∧ (s.line.phase = .q1 → s.pullsLine sampled = false)
    ∧ (s.line.position ≠ 0 → s.line.phase = .q2 → s.pullsLine sampled = true)
    ∧ (s.line.position ≠ 0 → s.line.phase = .q3 ∨ s.line.phase = .q4 →
        (s.line.round = none → s.pullsLine sampled = false)
        ∧ ∀ o, s.line.round = some o →
            s.pullsLine sampled = !sentBit s.membership.number o sampled s.line.position.val) := by
  refine ⟨fun h => ?_, fun h => ?_, fun h0 h => ?_, fun h0 h => ⟨fun hr => ?_, fun o hr => ?_⟩⟩
  · simp [State.pullsLine, hn, ha, ho, h]
  · simp [State.pullsLine, hn, ha, ho, h]
  · simp [State.pullsLine, hn, ha, ho, h0, h]
  · rcases h with h | h <;> simp [State.pullsLine, hn, ha, ho, h, hr]
  · rcases h with h | h <;> simp [State.pullsLine, hn, ha, ho, h0, h, hr]

end

theorem sentWithin_sendsWithin (own sampled : List Bool) (k : Nat) : SendsWithin own sampled k (sentWithin own sampled k) :=
  ⟨fun h => if_pos h.symm, fun h => if_neg fun h' => h h'.symm⟩

section
variable {number : BitVec 5} {o : Offers}

theorem sentBit_kind (sampled : List Bool) {j : Nat} (h : j < 3) :
    (offeredKind o.kind = none → sentBit number o sampled (j + 1) = true)
    ∧ ∀ k, offeredKind o.kind = some k →
      sentBit number o sampled (j + 1) = sentWithin (lineBits (kindCode k)) sampled j := by
  have hslot : j + 1 ≤ 3 := h
  constructor
  · intro hk
    rw [sentBit, if_pos hslot, hk]
  · intro k hk
    rw [sentBit, if_pos hslot, hk]
    rfl

theorem sentBit_body (number : BitVec 5) (o : Offers) (sampled : List Bool) (j : Nat) : sentBit number o sampled (j + 6)
    = sentBodyBit number o (sampledKind sampled) (sampled.drop 5) j := by
  rw [sentBit, if_neg (by omega), if_neg (by omega), if_neg (by omega), Nat.add_sub_cancel]

/-- The slots a member pulls in a ROLL round: its own, and the last while its store is full (R38). -/
theorem rollBits_getMsbD (number : BitVec 5) (full : Bool) {j : Nat} (h : j < 32) :
    (rollBits number full).getMsbD j = false ↔ (j = number.toNat ∧ j < 31) ∨ (j = 31 ∧ full = true) := by
  have hone : (1#32).getMsbD j = decide (j = 31) := by
    rw [BitVec.getMsbD_eq_getLsbD, BitVec.getLsbD_one]
    simp only [h, decide_true, Bool.true_and]
    rw [Bool.eq_iff_iff]
    simp only [Bool.and_eq_true, decide_eq_true_eq]
    omega
  have hslot (n : Nat) : (0x80000000#32 >>> n).getMsbD j = decide (j = n) := by
    rw [show (0x80000000#32) = BitVec.twoPow 32 31 from rfl, BitVec.getMsbD_ushiftRight, BitVec.getMsbD_twoPow]
    simp only [h, decide_true, Bool.true_and]
    rw [Bool.eq_iff_iff]
    simp only [Bool.and_eq_true, Bool.not_eq_true', decide_eq_true_eq, decide_eq_false_iff_not]
    omega
  rw [rollBits, BitVec.getMsbD_not]
  simp only [h, decide_true, Bool.true_and, Bool.not_eq_false', BitVec.getMsbD_or, Bool.or_eq_true]
  refine or_congr ?_ ?_
  · split
    next hn => rw [hslot]; simp only [decide_eq_true_eq]; omega
    next hn => simp; omega
  · cases full <;> simp [hone]

end

end

/-! ### The lowest input of the trip set (R63) -/

theorem lowestTripped_eq_none_iff (ms : Monitors) : lowestTripped ms = none ↔ ∀ i : Fin 8, ms.inputs[i].tripped = false := by
  rw [lowestTripped, List.findIdx?_eq_none_iff]
  constructor
  · intro h i
    exact h _ (by simp)
  · intro h x hx
    obtain ⟨i, hi, rfl⟩ := List.getElem_of_mem hx
    exact h ⟨i, by simpa using hi⟩

theorem lowestTripped_lt {ms : Monitors} {i : Nat} (h : lowestTripped ms = some i) : i < 8 := by
  obtain ⟨hi, -⟩ := List.findIdx?_eq_some_iff_findIdx_eq.1 h
  simpa using hi

/-- Settles O11: the offers field by field, the segment by what it waits for, the bits sent by `sentBit`'s equations. -/
theorem markSlotTakesTheOffers : Obligations.MarkSlotTakesTheOffers := by
  refine ⟨fun code s hp ha ho hr => ⟨_, s.takeOffers code, exec_markSlot code hp, ?mark⟩, fun c => rfl, readyToRest_iff,
    fun sampled s => ⟨pullsLine_off, fun n hn h => by rw [pullsLine_pattern hn h, patternLow_iff], pullsLine_in_round⟩,
    fun number o sampled => ⟨fun j hj => ?kind, rfl, rfl, fun j hj => ?body⟩,
    fun ms => ⟨lowestTripped_eq_none_iff ms, fun i => lowestTripped_lt, lowestTripped_eq_some_iff ms⟩⟩
  case mark =>
    rw [markSlot_of_aligned ha ho hr]
    refine ⟨rfl, rfl, rfl, fun hj => takeOffers_of_joining hj code, fun hm => ?member, captureRound_iff code,
      beginSegment_pass _ _ _, fun hi hn => ?survey, fun h => ?burst, fun hi => ?staging, fun hc i c hf => ?block,
      rfl, rfl, rfl, rfl⟩
    case member =>
      have hclaims := takeOffers_claims hm code
      refine ⟨takeOffers_member hm code, rfl, takeOffers_stay hm code, takeOffers_alert_iff hm code,
        takeOffers_kind_of_due hm code, ?_, fun hd => ⟨rfl, ?_, rfl, incidentOffer_origin⟩,
        takeOffers_kind_of_roll hm code, takeOffers_kind_of_outbox hm code⟩
      · rw [hclaims, Bool.and_eq_true, claimsPlace_iff]
      · rw [hclaims, hd, Bool.true_and]; rfl
    case survey =>
      have hcapture : (s.takeOffers code).captureRound = false := by
        rw [← Bool.not_eq_true, captureRound_iff, hi]; decide
      have hbegin : beginSegment s.settings (s.takeOffers code).captureRound s.sequencer
          = resumeSurvey s.settings { s.sequencer with pass := some ⟨s.sequencer.pointer, []⟩ } := by
        rw [hcapture, beginSegment_of_survey hn]
      refine ⟨fun h => ?_, fun h => ?_⟩
      · have hresume := hbegin.trans (resumeSurvey_of_entry rfl h)
        exact ⟨congrArg Sequencer.converter hresume, congrArg Sequencer.elapsed hresume⟩
      · exact congrArg Sequencer.converter (hbegin.trans (resumeSurvey_of_no_entry rfl h))
    case burst =>
      have hbegin := beginSegment_of_burst (st := s.settings) (q := s.sequencer) (h.imp_left (captureRound_iff code).2)
      exact ⟨(congrArg Sequencer.converter hbegin).trans rfl, (congrArg Sequencer.repetition hbegin).trans rfl⟩
    case staging =>
      exact if_neg (by rw [captureRound_iff, hi]; decide)
    case block =>
      have hfilled : (if (s.takeOffers code).captureRound then s.staging.updateFilling addBlock else s.staging)
          = s.staging.setSlot i (.filling (addBlock c)) :=
        (if_pos ((captureRound_iff code).2 hc)).trans (updateFilling_of_filling hf addBlock)
      exact (congrArg (Staging.slot · i) hfilled).trans (Staging.slot_setSlot_self _ _ _)
  case kind =>
    obtain ⟨hnone, hsome⟩ := sentBit_kind (number := number) (o := o) sampled hj
    exact ⟨hnone, fun k hk => hsome k hk ▸ sentWithin_sendsWithin _ _ _⟩
  case body =>
    simp only [sentBit_body]
    refine ⟨fun hk => ⟨fun f hf => ?incident, fun hno => ?noIncident⟩,
      fun hk => ⟨fun h29 => ?defend, fun code hc h => ?probe, fun h h29 => ?noProbe⟩, fun hk => ?roll,
      fun hk => ⟨fun r hr => ?reply, fun hno => ?noReply⟩, fun hk => ?silent⟩
    case incident =>
      have hkind : sampledKind sampled = 0 := hk
      rw [hkind]
      refine ⟨fun h => ?_, fun h h' => ?_, fun h h' => ?_, fun h => ?_⟩
      · rw [(sentBodyBit_incident hf _ j).1 h]
        exact sentWithin_sendsWithin _ _ _
      · obtain ⟨i, rfl⟩ := Nat.exists_eq_add_of_le h
        rw [(sentBodyBit_incident hf _ i).2.1 (by omega), Nat.add_sub_cancel_left]
        exact sentWithin_sendsWithin _ _ _
      · obtain ⟨i, rfl⟩ := Nat.exists_eq_add_of_le h
        rw [(sentBodyBit_incident hf _ i).2.2.1 (by omega), Nat.add_sub_cancel_left]
        exact sentWithin_sendsWithin _ _ _
      · obtain ⟨i, rfl⟩ := Nat.exists_eq_add_of_le h
        rw [(sentBodyBit_incident hf _ i).2.2.2, Nat.add_sub_cancel_left]
        exact sentWithin_sendsWithin _ _ _
    case noIncident =>
      have hkind : sampledKind sampled = 0 := hk
      rw [hkind, sentBodyBit_incident_silent hno]
    case defend =>
      have hkind : sampledKind sampled = 1 := hk
      rw [hkind, h29, sentBodyBit_defend]
      simp
    case probe =>
      have hkind : sampledKind sampled = 1 := hk
      rw [hkind, sentBodyBit_probe hc _ h]
      exact sentWithin_sendsWithin _ _ _
    case noProbe =>
      have hkind : sampledKind sampled = 1 := hk
      rw [hkind, sentBodyBit_probe_silent _ h h29]
    case roll =>
      have hkind : sampledKind sampled = 2 := hk
      rw [hkind, sentBodyBit_roll, Bool.or_eq_false_iff, Bool.not_eq_false', rollBits_getMsbD _ _ hj]
    case reply =>
      have hkind : sampledKind sampled = 4 := hk
      rw [hkind, sentBodyBit_reply hr]
      exact sentWithin_sendsWithin _ _ _
    case noReply =>
      have hkind : sampledKind sampled = 4 := hk
      rw [hkind, sentBodyBit_reply_silent hno]
    case silent =>
      rcases hk with hk | hk | hk | hk <;> rw [hk] <;> rfl

end Sys2Proof.Machine
end

section
/-!
Conversions (O12, O14): a survey sample and its pass, the burst points of a capture round, and the positions that burst values
fill.
-/

namespace Sys2Proof.Machine

/-! ### Survey conversions (R46, R47, R50, R58) -/

theorem nextEntry_eq (st : Settings) (p : PassUnderWay) : nextEntry st p
    = if p.samples.length < st.segment then st.survey[p.segment * st.segment + p.samples.length]? else none := by
  rw [nextEntry, segmentEntries, List.getElem?_take, List.getElem?_drop]

section
variable {s : State} {x : Sample} {p : PassUnderWay} {i : Input}

theorem surveyConversionDone_of_entry (hc : s.sequencer.converter = .survey) (hp : s.sequencer.pass = some p)
    (hn : nextEntry s.settings p = some i) : (s.surveyConversionDone x).sequencer
      = surveySample s.settings i p x s.sequencer
    ∧ (∀ h : i.val < 8, (s.surveyConversionDone x).monitors = (submitSample s.settings ⟨i.val, h⟩ x s.monitors).1)
    ∧ (8 ≤ i.val → (s.surveyConversionDone x).monitors = s.monitors)
    ∧ (s.surveyConversionDone x).staging = s.staging ∧ (s.surveyConversionDone x).ring = s.ring
    ∧ (s.surveyConversionDone x).engine = s.engine ∧ (s.surveyConversionDone x).line = s.line := by
  simp only [State.surveyConversionDone, hc, hp, hn]
  split
  next h => exact ⟨rfl, fun _ => rfl, fun h8 => absurd h h8.not_gt, rfl, rfl, rfl, rfl⟩
  next h => exact ⟨rfl, fun h' => absurd h' h, fun _ => rfl, rfl, rfl, rfl, rfl⟩

theorem surveySample_spec (st : Settings) (i : Input) (p : PassUnderWay) (x : Sample) (q : Sequencer) :
    (surveySample st i p x q).pass = some { p with samples := p.samples ++ [x] }
    ∧ (surveySample st i p x q).latest = q.latest.set i (some x)
    ∧ (nextEntry st { p with samples := p.samples ++ [x] } ≠ none →
        (surveySample st i p x q).converter = .survey ∧ (surveySample st i p x q).elapsed = 0)
    ∧ (nextEntry st { p with samples := p.samples ++ [x] } = none → (surveySample st i p x q).converter = .idle) := by
  unfold surveySample
  obtain ⟨hpass, -, hlatest, -, -⟩ := resumeSurvey_keeps st
    { q with pass := some { p with samples := p.samples ++ [x] }, latest := q.latest.set i (some x) }
  refine ⟨hpass, hlatest, fun h => ?_, fun h => ?_⟩
  · rw [resumeSurvey_of_entry rfl h]; exact ⟨rfl, rfl⟩
  · rw [resumeSurvey_of_no_entry rfl h]

end

/-- Settles O12: the conversion by its equation, the sample and the next entry by `surveySample_spec`. -/
theorem surveySampleJoinsThePass : Obligations.SurveySampleJoinsThePass := by
  refine ⟨fun x p i s hp hc hpass hn => ⟨_, exec_surveyConversionDone x hp, ?_⟩, nextEntry_eq⟩
  obtain ⟨hsequencer, hbelow, habove, hstaging, hring, hengine, hline⟩ :=
    surveyConversionDone_of_entry (x := x) hc hpass hn
  obtain ⟨hsamples, hlatest, hentry, hidle⟩ := surveySample_spec s.settings i p x s.sequencer
  rw [State.refreshFault_sequencer, hsequencer, hlatest]
  refine ⟨hsamples, Vector.getElem_set_self _, fun j hj => ?_, hbelow, habove, hentry, hidle, hstaging, hring, hengine,
    hline⟩
  exact Vector.getElem_set_ne _ _ fun h => hj (Fin.ext h.symm)

/-! ### Burst points (R51, R52, R54) -/

section
variable {s : State} {d : Nat}

theorem burstPoint_of_point (h : s.atBurstPoint d = true) :
    s.burstPoint d = (s.setLine (s.line.atPoint s.settings.density d)).beginRepetition d := if_pos h

theorem burstPoint_of_other (h : s.atBurstPoint d = false) : s.burstPoint d = s := if_neg (by simp [h])

theorem beginRepetition_of_none (h : s.sequencer.repetition = none) : s.beginRepetition d = s.setSequencer { s.sequencer with
    converter := .burst, elapsed := 0, repetition := some ⟨s.engine.primary, s.engine.captured, d, 0⟩ } :=
  if_pos (by simp [h])

theorem beginRepetition_of_some (h : s.sequencer.repetition ≠ none) : s.beginRepetition d = s :=
  if_neg (by simpa using h)

theorem beginRepetition_keeps (s : State) (d : Nat) : (s.beginRepetition d).sequencer.pass = s.sequencer.pass
    ∧ (s.beginRepetition d).staging = s.staging ∧ (s.beginRepetition d).line = s.line
    ∧ (s.beginRepetition d).engine = s.engine := by
  unfold State.beginRepetition
  split <;> exact ⟨rfl, rfl, rfl, rfl⟩

theorem ahead_iff (slot : Nat) (l : Line) : l.ahead slot = true
    ↔ l.position.val < slot ∨ (l.position.val = slot ∧ l.phase = .q1 ∧ l.phaseTime = 0) := by
  simp [Line.ahead, and_assoc]

theorem atBurstPoint_of_round {o : Offers} (ha : s.line.align = .aligned) (hr : s.line.round = some o) :
    s.atBurstPoint d = true ↔ o.captureRound = true ∧ s.line.nextBurstPoint s.settings.density = some d := by
  simp only [State.atBurstPoint, ha, hr, Bool.and_eq_true, beq_iff_eq, beq_self_eq_true, true_and]
  exact And.comm

end

/-! ### Burst values (R52, R56, R101, R188) -/

section
variable {s : State} {x : Sample} {r : Repetition}

theorem burstConversionDone_of_burst (hc : s.sequencer.converter = .burst) (hr : s.sequencer.repetition = some r) :
    s.burstConversionDone x = (s.setStaging (s.staging.updateFilling
      (placeBurst r (burstValue (s.sequencer.baselines.getD r.e none) x)))).setSequencer
        (afterBurst s.settings r s.sequencer) := by
  simp only [State.burstConversionDone, hc, hr]

theorem afterBurst_of_more {st : Settings} {q : Sequencer} (h : r.e + 1 < st.burst.length) :
    afterBurst st r q = { q with repetition := some { r with e := r.e + 1 }, elapsed := 0 } := if_pos h

theorem afterBurst_of_last {st : Settings} {q : Sequencer} (h : st.burst.length ≤ r.e + 1) :
    afterBurst st r q = resumeSurvey st { q with repetition := none } := if_neg h.not_gt

theorem afterBurst_keeps (st : Settings) (r : Repetition) (q : Sequencer) :
    (afterBurst st r q).latest = q.latest ∧ (afterBurst st r q).pass = q.pass := by
  unfold afterBurst
  split
  · exact ⟨rfl, rfl⟩
  · obtain ⟨hpass, -, hlatest, -, -⟩ := resumeSurvey_keeps st { q with repetition := none }
    exact ⟨hlatest, hpass⟩

theorem resumeSurvey_of_no_pass {st : Settings} {q : Sequencer} (h : q.pass = none) :
    (resumeSurvey st q).converter = .idle := by
  rw [resumeSurvey, h]

/-- With the burst list done, the survey resumes or the sequencer is idle. -/
theorem resumeSurvey_converter {st : Settings} {q : Sequencer} : (resumeSurvey st q).converter ≠ .burst
    ∧ (∀ p, q.pass = some p → nextEntry st p ≠ none →
        (resumeSurvey st q).converter = .survey ∧ (resumeSurvey st q).elapsed = 0)
    ∧ (∀ p, q.pass = some p → nextEntry st p = none → (resumeSurvey st q).converter = .idle)
    ∧ (q.pass = none → (resumeSurvey st q).converter = .idle) := by
  refine ⟨?_, fun p hp h => ?_, fun p hp h => ?_, resumeSurvey_of_no_pass⟩
  · unfold resumeSurvey
    split
    · split <;> simp
    · simp
  · rw [resumeSurvey_of_entry hp h]; exact ⟨rfl, rfl⟩
  · rw [resumeSurvey_of_no_entry hp h]

theorem updateFilling_of_none {q : Staging} (h : q.fillingSlot = none) (f : Construction → Construction) :
    q.updateFilling f = q := by
  rw [Staging.updateFilling, h]

theorem fillingSlot_eq_none_iff (q : Staging) : q.fillingSlot = none ↔ ∀ i c, q.slot i ≠ .filling c := by
  constructor
  · intro h i c hc
    cases i with
    | slot0 =>
      have hsome := (fillingSlot_eq_some_iff q .slot0 c).2 ⟨hc, by simp⟩
      rw [h] at hsome; cases hsome
    | slot1 =>
      by_cases h0 : ∃ d, q.slot0 = .filling d
      · obtain ⟨d, h0⟩ := h0
        have hsome := (fillingSlot_eq_some_iff q .slot0 d).2 ⟨h0, by simp⟩
        rw [h] at hsome; cases hsome
      · have hsome := (fillingSlot_eq_some_iff q .slot1 c).2 ⟨hc, fun _ => not_exists.1 h0⟩
        rw [h] at hsome; cases hsome
  · intro h
    cases hq : q.fillingSlot with
    | none => rfl
    | some y => exact absurd ((fillingSlot_eq_some_iff q y.1 y.2).1 hq).1 (h y.1 y.2)

/-- The delta in two's complement (R56). -/
theorem burstValue_some (b x : Sample) : burstValue (some b) x = BitVec.ofInt 16 ((x.toNat : Int) - b.toNat) := by
  have hx := x.isLt
  have hb := b.isLt
  refine BitVec.eq_of_toNat_eq ?_
  simp only [burstValue, BitVec.toNat_sub, BitVec.toNat_setWidth, BitVec.toNat_ofInt]
  omega

theorem burstValue_none (x : Sample) : burstValue none x = BitVec.ofNat 16 x.toNat := by
  refine BitVec.eq_of_toNat_eq ?_
  simp only [burstValue, BitVec.toNat_setWidth, BitVec.toNat_ofNat]

/-- No delta of two samples reads 8000h (R188). -/
theorem burstValue_ne_absent (baseline : Option Sample) (x : Sample) : burstValue baseline x ≠ 0x8000 := by
  have hx := x.isLt
  have habsent : (0x8000 : Word).toNat = 32768 := rfl
  intro h
  have hvalue := congrArg BitVec.toNat h
  cases baseline with
  | none =>
    simp only [burstValue, BitVec.toNat_setWidth, habsent] at hvalue
    omega
  | some b =>
    have hb := b.isLt
    simp only [burstValue, BitVec.toNat_sub, BitVec.toNat_setWidth, habsent] at hvalue
    omega

theorem placeBurst_of_other {v : Word} {c : Construction} (h : c.primary ≠ r.primary) : placeBurst r v c = c := if_neg h

theorem placeBurst_of_own {v : Word} {c : Construction} (h : c.primary = r.primary) : placeBurst r v c
    = { c with blocks := c.blocks.modify r.round fun b => b.set (r.d * c.burstLength + r.e) v } := if_pos h

theorem getElem?_modify_set (blocks : List (List Word)) (n m : Nat) (v : Word) {k : Nat} {block : List Word}
    (hk : blocks[k]? = some block) : ∃ written, (blocks.modify n fun b => b.set m v)[k]? = some written
      ∧ written.length = block.length
      ∧ ∀ j, j < block.length → written[j]? = if k = n ∧ j = m then some v else block[j]? := by
  rw [List.getElem?_modify, hk]
  by_cases hn : n = k
  · refine ⟨block.set m v, by simp [hn], List.length_set, fun j hj => ?_⟩
    rw [List.getElem?_set]
    by_cases hm : m = j
    · rw [if_pos hm, if_pos (hm ▸ hj), if_pos ⟨hn.symm, hm.symm⟩]
    · rw [if_neg hm, if_neg fun h => hm h.2.symm]
  · refine ⟨block, by simp [hn], rfl, fun j hj => ?_⟩
    rw [if_neg fun h => hn h.1.symm]

end

/-- Settles O14: the points by `nextBurstPoint`, a value's position by `placeBurst`. -/
theorem burstsFillTheirPositions : Obligations.BurstsFillTheirPositions := by
  refine ⟨fun d s hp h => ⟨_, exec_burstPoint d hp, ?point⟩, fun d s hp h => ?other, fun d o s ha hr => ?atPoint, ahead_iff,
    fun x r s hp hc hr => ⟨_, exec_burstConversionDone x hp, ?conversion⟩,
    fun x => ⟨fun b => burstValue_some b x, burstValue_none x, fun baseline => burstValue_ne_absent baseline x⟩,
    fun r v c => ⟨placeBurst_of_other, fun h => ?placed⟩,
    fun q => ⟨fillingSlot_eq_none_iff q, fillingSlot_eq_some_iff q⟩⟩
  case point =>
    rw [burstPoint_of_point h]
    have hpoint : (s.setLine (s.line.atPoint s.settings.density d.val)).sequencer = s.sequencer := rfl
    obtain ⟨hpass, hstaging, hline, hengine⟩ :=
      beginRepetition_keeps (s.setLine (s.line.atPoint s.settings.density d.val)) d.val
    refine ⟨hpass, hstaging, hline, hengine, fun hr => ?_, fun hr => ?_⟩
    · rw [beginRepetition_of_none (hpoint ▸ hr)]; exact ⟨rfl, rfl⟩
    · rw [beginRepetition_of_some (hpoint ▸ hr)]; rfl
  case other => rw [exec_burstPoint d hp, burstPoint_of_other h]
  case atPoint => rw [atBurstPoint_of_round ha hr, nextBurstPoint_eq_some_iff]; exact Iff.rfl
  case conversion =>
    rw [burstConversionDone_of_burst hc hr]
    obtain ⟨hlatest, hpass⟩ := afterBurst_keeps s.settings r s.sequencer
    refine ⟨fun i c h => ?_, updateFilling_of_none (f := _), fun hmore => ?_, fun hlast => ?_, hlatest, hpass, rfl⟩
    · exact (congrArg (Staging.slot · i) (updateFilling_of_filling h _)).trans (Staging.slot_setSlot_self _ _ _)
    · have hafter := afterBurst_of_more (q := s.sequencer) hmore
      exact ⟨(congrArg Sequencer.converter hafter).trans hc, congrArg Sequencer.repetition hafter⟩
    · obtain ⟨hne, hentry, hidle, hnone⟩ := resumeSurvey_converter (st := s.settings)
        (q := { s.sequencer with repetition := none })
      obtain ⟨-, hrepetition, -⟩ := resumeSurvey_keeps s.settings { s.sequencer with repetition := none }
      have hafter := afterBurst_of_last (q := s.sequencer) hlast
      rw [← hafter] at hne hentry hidle hnone hrepetition
      exact ⟨hrepetition, hne, hentry, hidle, hnone⟩
  case placed =>
    rw [placeBurst_of_own h]
    exact ⟨rfl, List.length_modify _ _ _, fun k block hk => getElem?_modify_set c.blocks r.round _ v hk⟩

end Sys2Proof.Machine
end

section
/-!
The end of a round (O15): what the reactions before the Order Unit's can be, what is left once the station comes no nearer to
rest, and the round within which the station aligned.
-/

namespace Sys2Proof.Machine

/-! ### Up to the Order Unit -/

/-- The pass ended, the slot timing at the next round, the ring restated: the state in which the membership reacts. -/
def State.lineTaken (s : State) (r : Round) : State := s.completePass.lineRoundEnd.ringRoundEnd r

section
variable (s : State) (o : Offers) (r : Round) (out : OfferOutcome)

theorem lineTaken_side : (s.lineTaken r).membership = s.membership ∧ (s.lineTaken r).rest = s.rest
    ∧ (s.lineTaken r).engine = s.engine ∧ (s.lineTaken r).monitors = s.monitors ∧ (s.lineTaken r).staging = s.staging
    ∧ (s.lineTaken r).pins = s.pins ∧ (s.lineTaken r).settings = s.settings
    ∧ (s.lineTaken r).sequencer = s.completePass.sequencer
    ∧ (s.lineTaken r).line = { s.line with
        round := none, burstPoints := 0, position := 0, phase := .q1, phaseTime := 0 } := by
  obtain ⟨hm, hs, hl, he, hmon, hst, hp, hr⟩ := s.completePass_side
  obtain ⟨hm', hs', hl', he', hmon', hst', hp', hr', hq'⟩ := s.completePass.lineRoundEnd.ringRoundEnd_side r
  refine ⟨hm'.trans hm, hr'.trans hr, he'.trans he, hmon'.trans hmon, hst'.trans hst, hp'.trans hp, hs'.trans hs, hq', ?_⟩
  rw [State.lineTaken, hl', State.lineRoundEnd, State.setLine_line, hl]

variable {s}

/-- The membership's reaction either withdraws the station or leaves it on the line, and touches nothing else (R28, R29). -/
theorem beforeEngine_cases (ho : s.onLine = true) : s.beforeEngine o r out = (s.lineTaken r).withdraw .duplicate
    ∨ ∃ m, s.beforeEngine o r out = (s.lineTaken r).setMembership m ∧ (m.state = .joining ∨ m.state = .member) := by
  have hm : (s.completePass.lineRoundEnd.ringRoundEnd r).membership = s.membership := (lineTaken_side s r).1
  have hstate := (onLine_iff s).1 ho
  unfold State.beforeEngine State.membershipRoundEnd
  rw [hm]
  split
  next hj _ =>
    split
    · exact .inl rfl
    · exact .inr ⟨_, rfl, .inr rfl⟩
    · split
      · exact .inr ⟨_, rfl, .inl hj⟩
      · exact .inr ⟨(s.lineTaken r).membership, rfl, .inl ((congrArg Membership.state hm).trans hj)⟩
  next =>
    split
    · exact .inr ⟨_, rfl, hstate⟩
    · refine .inr ⟨_, rfl, ?_⟩
      unfold Membership.countRoll
      split <;> exact hstate

theorem beforeOrders_onLine_rest (ho : s.onLine = true) :
    ((s.beforeOrders o r out).onLine = true → (s.beforeOrders o r out).rest = s.rest)
    ∧ ((s.beforeOrders o r out).onLine = false → (s.beforeOrders o r out).rest.count = 0) := by
  obtain ⟨hmembership, -, -, hrest⟩ := s.beforeOrders_engineSide o r out
  have honLine : (s.beforeOrders o r out).onLine = (s.beforeEngine o r out).onLine := by
    rw [State.onLine, State.onLine, hmembership]
  rw [honLine, hrest]
  rcases beforeEngine_cases o r out ho with h | ⟨m, h, hm⟩
  · have hwithdrawn : ((s.lineTaken r).withdraw .duplicate).onLine = false := rfl
    rw [h, hwithdrawn]
    refine ⟨by simp, fun _ => ?_⟩
    show (s.lineTaken r).depart.rest.count = 0
    rw [(s.lineTaken r).depart_acquisition.2.2.2]
  · have hon : ((s.lineTaken r).setMembership m).onLine = true := (onLine_iff _).2 hm
    rw [h, hon]
    exact ⟨fun _ => (lineTaken_side s r).2.1, by simp⟩

theorem beforeOrders_due : (s.beforeOrders o r out).engine.due
    = (r.banner.alert && (s.beforeOrders o r out).membership.state == .member) := rfl

end

/-! ### Past the Order Unit -/

/-- What the Order Unit and the round count leave of the state before them, when the station comes no nearer to rest. -/
structure RoundLeaves (r : Round) (b t : State) : Prop where
  membership : t.membership = b.membership
  line : t.line = { b.line with count := nextCount b.line.count r }
  sequencer : t.sequencer = b.sequencer
  monitors : t.monitors = b.monitors
  ring : t.ring = b.ring
  engine : t.engine = b.engine
  pins : t.pins = b.pins

/-- The same in the state in which the programmer takes its next operation. -/
structure RoundSettled (r : Round) (b u : State) : Prop extends RoundLeaves r b u where
  staging : u.staging = b.staging
  arrays : u.arrays = b.arrays

theorem restRoundEnd_stays {s : State} {r : Round} (h : s.StaysAwake r.banner.stay ∨ s.membership.state ≠ .member) :
    ∃ n, s.restRoundEnd r = s.setRest { s.rest with count := n } := by
  by_cases ha : s.StaysAwake r.banner.stay
  · exact State.restRoundEnd_awake ha
  · have hm := h.resolve_left ha
    unfold State.restRoundEnd
    split
    · split
      · exact ⟨_, rfl⟩
      · rw [if_neg fun hd => hm hd.2]
        exact ⟨_, rfl⟩
    · exact ⟨s.rest.count, rfl⟩

section
variable {s : State} {o : Offers} {r : Round} {out : OfferOutcome}

theorem closeRound_stays (h : s.StaysAwake r.banner.stay ∨ (s.beforeOrders o r out).membership.state ≠ .member) :
    ∃ n, s.closeRound o r out
      = ((((s.beforeOrders o r out).ordersRoundEnd (s.takenOrder r) (replyWon o out)).advanceCount r).setRest
          { (s.beforeOrders o r out).rest with count := n }).take := by
  have k := ordersRoundEnd_orderKeeps (s.beforeOrders o r out) (s.takenOrder r) (replyWon o out)
  obtain ⟨n, hn⟩ := restRoundEnd_stays
    (s := ((s.beforeOrders o r out).ordersRoundEnd (s.takenOrder r) (replyWon o out)).advanceCount r) (r := r) (by
      refine h.imp (fun ha => ?_) (fun hm => by rwa [State.advanceCount_membership, k.membership])
      rw [State.StaysAwake, State.advanceCount_rest, k.rest]
      exact State.beforeOrders_awake ha o r out)
  refine ⟨n, ?_⟩
  rw [State.closeRound, State.afterOrders, hn, State.advanceCount_rest, k.rest]

theorem closeRound_settled (h : s.StaysAwake r.banner.stay ∨ (s.beforeOrders o r out).membership.state ≠ .member) :
    ∃ u : State, s.closeRound o r out = u.take ∧ RoundSettled r (s.beforeOrders o r out) u := by
  have k := ordersRoundEnd_orderKeeps (s.beforeOrders o r out) (s.takenOrder r) (replyWon o out)
  obtain ⟨n, hn⟩ := closeRound_stays h
  refine ⟨_, hn, ⟨⟨k.membership, ?_, k.sequencer, k.monitors, k.ring, k.engine, k.pins⟩, k.staging, k.arrays⟩⟩
  rw [State.setRest_line, State.advanceCount_line, k.line]

theorem closeRound_leaves (h : s.StaysAwake r.banner.stay ∨ (s.beforeOrders o r out).membership.state ≠ .member) :
    RoundLeaves r (s.beforeOrders o r out) (s.closeRound o r out) := by
  obtain ⟨u, hu, hs⟩ := closeRound_settled h
  rw [hu]
  exact ⟨u.take_membership.trans hs.membership, u.take_line.trans hs.line, u.take_sequencer.trans hs.sequencer,
    u.take_monitors.trans hs.monitors, u.take_ring.trans hs.ring, u.take_engine.trans hs.engine,
    u.take_pins.trans hs.pins⟩

end

/-- The end of a round up to the rest count. -/
def State.beforeRest (s : State) (o : Offers) (r : Round) (out : OfferOutcome) : State :=
  ((s.beforeOrders o r out).ordersRoundEnd (s.takenOrder r) (replyWon o out)).advanceCount r

theorem closeRound_eq (s : State) (o : Offers) (r : Round) (out : OfferOutcome) :
    s.closeRound o r out = ((s.beforeRest o r out).restRoundEnd r).take := rfl

theorem beforeRest_side (s : State) (o : Offers) (r : Round) (out : OfferOutcome) :
    (s.beforeRest o r out).membership = (s.beforeOrders o r out).membership
    ∧ (s.beforeRest o r out).rest = (s.beforeOrders o r out).rest
    ∧ (s.beforeRest o r out).engine = (s.beforeOrders o r out).engine
    ∧ (s.beforeRest o r out).pins = (s.beforeOrders o r out).pins
    ∧ (s.beforeRest o r out).arrays = s.arrays := by
  have k := ordersRoundEnd_orderKeeps (s.beforeOrders o r out) (s.takenOrder r) (replyWon o out)
  exact ⟨k.membership, k.rest, k.engine, k.pins, k.arrays.trans (s.beforeOrders_arrays o r out)⟩

/-! ### The rest count (R178) -/

theorem restRoundEnd_cases (s : State) (r : Round) : (s.onLine = false ∧ s.restRoundEnd r = s)
    ∨ (s.onLine = true ∧ r.banner.stay = true ∧ s.restRoundEnd r = s.setRest { s.rest with count := 0 })
    ∨ (s.onLine = true ∧ r.banner.stay = false ∧ 32 ≤ s.rest.count + 1 ∧ s.membership.state = .member
        ∧ s.restRoundEnd r = s.enterDormant (!r.body.getMsbD 31))
    ∨ (s.onLine = true ∧ r.banner.stay = false ∧ ¬(32 ≤ s.rest.count + 1 ∧ s.membership.state = .member)
        ∧ s.restRoundEnd r = s.setRest { s.rest with count := min (s.rest.count + 1) 32 }) := by
  unfold State.restRoundEnd
  cases ho : s.onLine with
  | false => exact .inl ⟨rfl, if_neg (by simp)⟩
  | true =>
    rw [if_pos rfl]
    cases hs : r.banner.stay with
    | true => exact .inr (.inl ⟨rfl, rfl, if_pos rfl⟩)
    | false =>
      rw [if_neg (by simp)]
      by_cases hd : 32 ≤ s.rest.count + 1 ∧ s.membership.state = .member
      · exact .inr (.inr (.inl ⟨rfl, rfl, hd.1, hd.2, if_pos hd⟩))
      · exact .inr (.inr (.inr ⟨rfl, rfl, hd, if_neg hd⟩))

theorem enterDormant_spec (s : State) (low : Bool) : (s.enterDormant low).membership.state = .dormant
    ∧ (s.enterDormant low).rest.count = 0 ∧ (s.enterDormant low).engine.due = false := by
  refine ⟨?_, ?_, by rw [enterDormant_engine]; exact s.depart_engine.2.1⟩
  · rw [State.enterDormant_eq]; split <;> rfl
  · rw [State.enterDormant_eq]; split <;> rfl

section
variable {s : State} (r : Round)

theorem restRoundEnd_due (h : s.engine.due = (r.banner.alert && s.membership.state == .member)) :
    (s.restRoundEnd r).engine.due = (r.banner.alert && (s.restRoundEnd r).membership.state == .member) := by
  rcases restRoundEnd_cases s r with ⟨-, heq⟩ | ⟨-, -, heq⟩ | ⟨-, -, -, -, heq⟩ | ⟨-, -, -, heq⟩
  · rw [heq]; exact h
  · rw [heq]; exact h
  · obtain ⟨hstate, -, hdue⟩ := enterDormant_spec s (!r.body.getMsbD 31)
    rw [heq, hstate, hdue, show (MemberState.dormant == .member) = false from rfl, Bool.and_false]
  · rw [heq]; exact h

theorem restRoundEnd_count : (s.StaysAwake r.banner.stay → (s.restRoundEnd r).onLine = true →
      (s.restRoundEnd r).rest.count = if r.banner.stay then 0 else s.rest.count + 1)
    ∧ ((s.onLine = false → s.rest.count = 0) → (s.restRoundEnd r).onLine = false → (s.restRoundEnd r).rest.count = 0) := by
  rcases restRoundEnd_cases s r with ⟨ho, heq⟩ | ⟨ho, hs, heq⟩ | ⟨ho, hs, hc, hm, heq⟩ | ⟨ho, hs, hd, heq⟩
  · rw [heq, ho]; exact ⟨by simp, fun h _ => h rfl⟩
  · rw [heq, hs]; exact ⟨fun _ _ => rfl, fun _ _ => rfl⟩
  · obtain ⟨hstate, hcount, -⟩ := enterDormant_spec s (!r.body.getMsbD 31)
    rw [heq]
    refine ⟨fun _ hon => ?_, fun _ _ => hcount⟩
    simp [State.onLine, hstate] at hon
  · rw [heq, hs]
    refine ⟨fun ha _ => ?_, fun _ hoff => ?_⟩
    · have hlt : s.rest.count + 1 < 32 := ha.resolve_left (by simp)
      exact Nat.min_eq_left (by omega)
    · rw [State.setRest_onLine, ho] at hoff; exact Bool.noConfusion hoff

end

theorem restRoundEnd_onLine {s : State} {r : Round} (h : (s.restRoundEnd r).onLine = true) : s.onLine = true := by
  rcases restRoundEnd_cases s r with ⟨-, heq⟩ | ⟨ho, -⟩ | ⟨ho, -⟩ | ⟨ho, -⟩
  · rwa [heq] at h
  all_goals exact ho

/-! ### Orders read and not read (R139, R151) -/

theorem restarts_iff (s : State) (r : Round) :
    s.restarts r = true ↔ s.lock = .opened ∧ ∃ arg, s.takenOrder r = some (.restart, arg) := by
  unfold State.restarts
  split
  next arg h => simp [h]
  next x hne h =>
    refine iff_of_false (by simp) ?_
    rintro ⟨-, arg, harg⟩
    exact hne arg (Option.some.inj (h.symm.trans harg))
  next h => simp [h]

theorem takenOrder_eq_none_iff (s : State) (r : Round) : s.takenOrder r = none ↔ ¬(r.kind = .order
    ∧ checkGood .order r.body = true ∧ orderTarget r.body = s.membership.number ∧ s.membership.state = .member) := by
  unfold State.takenOrder
  split
  next h => exact iff_of_false (by simp) fun hn => hn h
  next h => exact iff_of_true rfl h

theorem exec_orderCommand {s : State} (hp : s.powered = true) (banner : Banner) (code : OrderCode) (arg : Word)
    (i : StartInputs) : ∃ j, exec (orderCommand banner code arg i) s = .next (s.orderToStation banner code arg j).refreshFault := by
  cases code with
  | fetch =>
    unfold orderCommand
    by_cases h0 : arg = 0
    · rw [if_pos h0, h0]; exact ⟨_, exec_fetchOldestUnread banner hp⟩
    · by_cases h1 : arg = 0xFFFF
      · rw [if_neg h0, if_pos h1, h1]; exact ⟨_, exec_fetchStatus banner hp⟩
      · rw [if_neg h0, if_neg h1]; exact ⟨_, exec_fetch banner arg hp⟩
  | erase =>
    unfold orderCommand
    by_cases h2 : arg = 2
    · rw [if_pos h2, h2]; exact ⟨_, exec_eraseSetupPulse banner hp⟩
    · rw [if_neg h2]; exact ⟨_, exec_erase banner arg hp⟩
  | mark => exact ⟨_, exec_mark banner arg hp⟩
  | unlock => exact ⟨_, exec_unlock banner arg hp⟩
  | relock => exact ⟨_, exec_relock banner arg hp⟩
  | load => exact ⟨_, exec_load banner arg hp⟩
  | program => exact ⟨_, exec_program banner arg hp⟩
  | restart => exact ⟨_, exec_restart banner arg i hp⟩

/-- Within the round it aligned in, a station is in no round of its own, so nothing comes due (R13). -/
theorem roundEndIf_of_no_round {s : State} (hr : s.line.round = none) {due : Bool} (hd : due = true → s.inRound = true)
    (r : Round) (i : StartInputs) : s.roundEndIf due r i = s := by
  refine if_neg fun h => ?_
  have hin := hd h
  simp [State.inRound, hr] at hin

theorem markSlot_spec {s : State} (ha : s.line.align = .aligned) (ho : s.onLine = true) (hr : s.line.round = none)
    (code : BitVec 16) : (s.markSlot code).line.round = some (s.takeOffers code) ∧ (s.markSlot code).line.position = 0
      ∧ (s.markSlot code).line.count = s.line.count := by
  rw [markSlot_of_aligned ha ho hr]
  exact ⟨rfl, rfl, rfl⟩

theorem nextCount_cases (n : RoundCount) (r : Round) :
    (r.kind = .epoch → checkGood .epoch r.body = true → nextCount n r = epochValue r.body)
    ∧ (r.kind ≠ .epoch ∨ checkGood .epoch r.body = false → nextCount n r = n + 1) := by
  refine ⟨fun hk hc => if_pos ⟨hk, hc⟩, fun h => if_neg fun ⟨hk, hc⟩ => ?_⟩
  rcases h with h | h
  · exact h hk
  · rw [hc] at h; exact Bool.noConfusion h

/-- Settles O15: `closeRound_keeps`, the engine and the rest count through `restRoundEnd`, and the round without offers. -/
theorem roundEndMovesTheRoundCount : Obligations.RoundEndMovesTheRoundCount := by
  refine ⟨fun o r out s h hr => ⟨_, exec_roundCommand_closeRound h hr, ?round⟩,
    fun r s => ⟨restarts_iff s r, takenOrder_eq_none_iff s r⟩, fun body => ⟨rfl, rfl⟩, fun r s hp ha ho hn => ?aligned⟩
  case round =>
    obtain ⟨-, -, hon, -, -⟩ := h
    obtain ⟨-, hsettings, hnumber, hpending, hcount, hround, -⟩ := s.closeRound_keeps o r out
    obtain ⟨hepoch, hnext⟩ := nextCount_cases s.line.count r
    rw [← hcount] at hepoch hnext
    obtain ⟨hmembership, hrest, hengine, hpins, harrays⟩ := beforeRest_side s o r out
    obtain ⟨hkeeps, hclears⟩ := beforeOrders_onLine_rest o r out hon
    obtain ⟨hawake, hoff⟩ := restRoundEnd_count r (s := s.beforeRest o r out)
    have k := restRoundEnd_restKeeps (s.beforeRest o r out) r
    have honLine : (s.beforeRest o r out).onLine = (s.beforeOrders o r out).onLine := by
      rw [State.onLine, hmembership]; rfl
    rw [closeRound_eq] at *
    refine ⟨hepoch, hnext, ?due, fun ha ho => ?awake, fun ho => ?off, hround, ?arrays, hsettings, hpending, ?straps, hnumber⟩
    case due =>
      rw [State.refreshFault_engine, State.refreshFault_membership, State.take_engine, State.take_membership]
      exact restRoundEnd_due r (by rw [hengine, hmembership, beforeOrders_due])
    case awake =>
      have ho' : ((s.beforeRest o r out).restRoundEnd r).onLine = true := by
        rwa [State.refreshFault_onLine, State.onLine, State.take_membership] at ho
      have hb : (s.beforeOrders o r out).onLine = true := honLine ▸ restRoundEnd_onLine ho'
      rw [hrest, hkeeps hb] at hawake
      rw [State.refreshFault_rest, State.take_rest]
      exact hawake (by rw [State.StaysAwake, hrest, hkeeps hb]; exact ha) ho'
    case off =>
      have ho' : ((s.beforeRest o r out).restRoundEnd r).onLine = false := by
        rwa [State.refreshFault_onLine, State.onLine, State.take_membership] at ho
      rw [State.refreshFault_rest, State.take_rest]
      exact hoff (fun hb => by rw [hrest]; exact hclears (honLine ▸ hb)) ho'
    case arrays => rw [State.refreshFault_arrays, State.take_setupArray, k.arrays, harrays]
    case straps =>
      rw [State.refreshFault_straps, State.take_pins, k.straps, hpins, (beforeOrders_keeps s o r out).straps]
  case aligned =>
    have hend (r : Round) (i : StartInputs) := State.roundEnd_of_no_offers ha ho hn r i
    refine ⟨(s.setLine { s.line with burstPoints := 0, position := 0, phase := .q1, phaseTime := 0 }).refreshFault,
      by rw [exec_roundCommand r hp, hend], rfl, rfl, rfl, rfl, rfl, rfl, rfl, rfl, fun code arg i => ?_,
      fun i c hc => ?_, fun code => ⟨_, exec_markSlot code hp, ?_⟩⟩
    · obtain ⟨j, hj⟩ := exec_orderCommand hp r.banner code arg i
      rw [hj, State.orderToStation, hend]
    · simp only [List.mem_cons, List.not_mem_nil, or_false] at hc
      rcases hc with rfl | rfl | rfl | rfl
      · rw [exec_rollTimerDue r i hp, roundEndIf_of_no_round hn]
        simp +contextual [State.rollComesDue]
      · rw [exec_openTimerExpiry r i hp, roundEndIf_of_no_round hn]
        simp +contextual [State.openTimerComesDue]
      · rw [exec_captureEnd r i hp, roundEndIf_of_no_round hn]
        simp +contextual [State.captureComesToEnd]
      · rw [exec_enterDormant r i hp, roundEndIf_of_no_round hn]
        simp +contextual [State.restComesDue]
    · exact markSlot_spec (s := (s.setLine { s.line with
        burstPoints := 0, position := 0, phase := .q1, phaseTime := 0 }).refreshFault) ha ho hn code

end Sys2Proof.Machine
end

section
/-!
What a round end brings (O16, O17, O18, O19): the pass that joins the ring, the roll, the roll timer, and the probe that
settles a joiner.
-/

namespace Sys2Proof.Machine

/-! ### The sequencer through the engine's reaction -/

/-- A change of the baselines alone. -/
def BaselinesOnly (q q' : Sequencer) : Prop := q' = { q with baselines := q'.baselines }

theorem BaselinesOnly.trans {q q' q'' : Sequencer} (h : BaselinesOnly q q') (g : BaselinesOnly q' q'') :
    BaselinesOnly q q'' := by
  rw [BaselinesOnly] at *
  rw [g, h]

section
variable (s : State)

theorem settleIncident_sequencer (g : Agreement) (n : RoundCount) (cl : Bool) :
    BaselinesOnly s.sequencer (s.settleIncident g n cl).sequencer := by
  unfold State.settleIncident State.settleIdle
  simp only
  split
  · split
    · rfl
    · split
      · split <;> rfl
      · rfl
  · rfl

theorem engineRoundEnd_sequencer (o : Offers) (r : Round) (m : Bool) (n : RoundCount) :
    BaselinesOnly s.sequencer (s.engineRoundEnd o r m n).sequencer := by
  have hnext (t : State) (b : Bool) (e : Engine) : BaselinesOnly t.sequencer (if b then t.setEngine e else t).sequencer := by
    cases b <;> rfl
  have hsettle (t : State) (b : Bool) (g : Agreement) (cl : Bool) :
      BaselinesOnly t.sequencer (if b then t.settleIncident g n cl else t).sequencer := by
    cases b
    · rfl
    · exact settleIncident_sequencer t g n cl
  have hend (t : State) (b : Bool) : BaselinesOnly t.sequencer (if b then t.endCapture else t).sequencer := by
    cases b <;> rfl
  exact (hnext s _ _).trans ((hnext _ _ _).trans ((hsettle _ _ _ _).trans (hend _ _)))

end

theorem beforeOrders_sequencer (s : State) (o : Offers) (r : Round) (out : OfferOutcome) :
    BaselinesOnly (s.beforeEngine o r out).sequencer (s.beforeOrders o r out).sequencer :=
  engineRoundEnd_sequencer (s.beforeEngine o r out) o r _ _

/-! ### The pass and the ring (R48, R49, R66, R67) -/

section
variable {s : State} {p : PassUnderWay}

theorem completePass_of_pass (h : s.sequencer.pass = some p) : s.completePass
    = (s.setRing (ringAppend s.settings.ringCapacity s.ring (finishedPass s.settings s.line.count p))).setSequencer
      (endSegment s.settings s.sequencer) := by
  rw [State.completePass, h]

theorem lineTaken_ring (s : State) (r : Round) :
    (r.kind ≠ .epoch ∨ checkGood .epoch r.body = false → (s.lineTaken r).ring = s.completePass.ring)
    ∧ (r.kind = .epoch → checkGood .epoch r.body = true →
        (s.lineTaken r).ring = ringRestate (epochValue r.body) s.completePass.ring) := by
  unfold State.lineTaken State.ringRoundEnd
  refine ⟨fun h => ?_, fun hk hc => ?_⟩
  · rw [if_neg]
    · rfl
    · rintro ⟨hk, hc⟩
      rcases h with h | h
      · exact h hk
      · rw [hc] at h; exact Bool.noConfusion h
  · rw [if_pos ⟨hk, hc⟩]; rfl

theorem finishedPass_short_iff (st : Settings) (n : RoundCount) (p : PassUnderWay) : (finishedPass st n p).short = true
    ↔ p.samples.length < min st.segment (st.survey.length - p.segment * st.segment) := by
  simp [finishedPass, segmentEntries]

/-- The pointer wraps past the last segment (R49). -/
theorem advancePointer_eq (st : Settings) (j : Nat) (hs : 1 ≤ st.segment) (hj : j * st.segment < st.survey.length) :
    advancePointer st j = if (j + 1) * st.segment < st.survey.length then j + 1 else 0 := by
  have hcount (k : Nat) : k < segmentCount st ↔ k * st.segment < st.survey.length := by
    rw [segmentCount, ← Nat.succ_le_iff, Nat.le_div_iff_mul_le hs, Nat.succ_mul]
    omega
  have hlast : j + 1 = segmentCount st ↔ ¬(j + 1) * st.segment < st.survey.length := by
    have := (hcount j).2 hj
    rw [← hcount]
    omega
  unfold advancePointer
  by_cases h : (j + 1) * st.segment < st.survey.length
  · rw [if_neg fun he => hlast.1 he h, if_pos h]
  · rw [if_pos (hlast.2 h), if_neg h]

theorem ringAppend_cases (ring : List Pass) (p : Pass) : ringAppend 0 ring p = ring
    ∧ (∀ capacity, ring.length < capacity → ringAppend capacity ring p = ring ++ [p])
    ∧ ∀ oldest rest, ring = oldest :: rest → ringAppend ring.length ring p = rest ++ [p] := by
  refine ⟨rfl, fun capacity h => ?_, fun oldest rest h => ?_⟩
  · rw [ringAppend, if_neg (by omega), if_pos h]
  · subst h
    rw [ringAppend, if_neg (by simp), if_neg (lt_irrefl _)]
    rfl

theorem ringRestate_spec (v : RoundCount) (ring : List Pass) : (ringRestate v ring).length = ring.length
    ∧ ∀ k, k < ring.length → (ringRestate v ring)[ring.length - 1 - k]?
        = ring[ring.length - 1 - k]?.map fun p => { p with count := v - 1 - BitVec.ofNat 24 k } := by
  refine ⟨List.length_mapIdx, fun k hk => ?_⟩
  have hage : v - BitVec.ofNat 24 (ring.length - (ring.length - 1 - k)) = v - 1 - BitVec.ofNat 24 k := by
    rw [show ring.length - (ring.length - 1 - k) = 1 + k by omega, BitVec.ofNat_add, sub_add_eq_sub_sub]
    rfl
  rw [ringRestate, List.getElem?_mapIdx]
  exact congrArg (fun c => ring[ring.length - 1 - k]?.map fun p => { p with count := c }) hage

theorem probeResult_duplicate_iff (r : Round) (out : OfferOutcome) : probeResult r out = .duplicate
    ↔ ¬(r.kind = .probe ∧ checkGood .probe r.body = false)
      ∧ ((∃ k, out = .withdrew k ∧ 5 ≤ k ∧ k ≤ 20) ∨ (out = .won ∧ defendPulled r.body = true)) := by
  unfold probeResult
  by_cases hb : r.kind = .probe ∧ checkGood .probe r.body = false
  · rw [if_pos (by simpa using hb)]
    exact iff_of_false (by simp) fun h => h.1 hb
  · rw [if_neg (by simpa using hb)]
    cases out with
    | none => simp
    | lostKind => simp
    | withdrew k => by_cases hk : 5 ≤ k ∧ k ≤ 20 <;> simp [hk, hb]
    | won => cases hd : defendPulled r.body <;> simp [hb]

end

/-- Settles O16: the pass joins as `completePass` has it, and no later reaction touches the ring or the segment. -/
theorem passJoinsTheRing : Obligations.PassJoinsTheRing := by
  refine ⟨fun o r out p s h hpass hr ha hn => ⟨_, exec_roundCommand_closeRound h hr, ?round⟩,
    fun st n p => ⟨rfl, rfl, rfl, finishedPass_short_iff st n p⟩, advancePointer_eq, ringAppend_cases, ringRestate_spec,
    probeResult_duplicate_iff⟩
  have hleaves := closeRound_leaves (o := o) (out := out) (.inl ha)
  obtain ⟨-, -, -, -, -, hsequencer, hring⟩ := s.beforeEngine_side o r out hn
  have hsegment := beforeOrders_sequencer s o r out
  rw [hsequencer, completePass_of_pass hpass] at hsegment
  have htaken : (s.closeRound o r out).ring = (s.lineTaken r).ring := by
    rw [hleaves.ring, (s.beforeOrders_engineSide o r out).2.2.1]; exact hring
  obtain ⟨hkept, hrestated⟩ := lineTaken_ring s r
  rw [completePass_of_pass hpass] at hkept hrestated
  rw [State.refreshFault_ring, State.refreshFault_sequencer, htaken, hleaves.sequencer, hsegment]
  exact ⟨hkept, hrestated, rfl, rfl, rfl⟩

/-! ### The membership at a round end (R28, R29, R35, R36, R37) -/

section
variable {m : Membership} {period : Nat} {o : Offers} {r : Round} {out : OfferOutcome}

theorem afterRound_of_member_roll (h : m.state = .member) (hr : r.kind = .roll) :
    m.afterRound period o r out = m.rolled r.body := by
  rw [Membership.afterRound, h]
  exact if_pos hr

theorem afterRound_of_member (h : m.state = .member) (hr : r.kind ≠ .roll) :
    m.afterRound period o r out = { m with rollTimer := min (m.rollTimer + 1) period } := by
  have hcount : m.countRoll period = { m with rollTimer := min (m.rollTimer + 1) period } := if_pos h
  rw [← hcount, Membership.afterRound, h]
  exact if_neg hr

/-- A joiner that offers no probe takes a ROLL round as any station does. -/
theorem afterRound_of_joining_silent (h : m.state = .joining) (ho : ∀ code, o.kind ≠ .probe code) :
    m.afterRound period o r out = if r.kind = .roll then m.rolled r.body else m := by
  have hcount : m.countRoll period = m := if_neg (by simp [h])
  unfold Membership.afterRound
  split
  next code _ hc => exact absurd hc (ho code)
  next => rw [hcount]

theorem afterRound_of_joining {code : BitVec 16} (h : m.state = .joining) (ho : o.kind = .probe code) :
    (probeResult r out = .duplicate → m.afterRound period o r out = { m with state := .withdrawn, cause := .duplicate })
    ∧ (probeResult r out = .admitted → m.afterRound period o r out = m.becomeMember)
    ∧ (probeResult r out = .stay → m.afterRound period o r out = if r.kind = .roll then m.rolled r.body else m) := by
  refine ⟨fun hp => ?_, fun hp => ?_, fun hp => ?_⟩ <;> rw [Membership.afterRound, h, ho, hp]

theorem probeResult_of_lost (r : Round) : probeResult r .lostKind = .stay := by
  unfold probeResult
  split <;> rfl

theorem afterRound_of_roll (h : m.state = .joining ∨ m.state = .member) (hr : r.kind = .roll)
    (hs : settleOffer m.number o r = some out) : m.afterRound period o r out = m.rolled r.body := by
  rcases h with hj | hm
  · by_cases ho : ∃ code, o.kind = .probe code
    · obtain ⟨code, ho⟩ := ho
      obtain ⟨rfl, -⟩ := outcome_of_other_kind hs (k := .probe) (by rw [ho]; rfl) (by rw [hr]; decide)
      rw [(afterRound_of_joining hj ho).2.2 (probeResult_of_lost r), if_pos hr]
    · rw [afterRound_of_joining_silent hj (not_exists.1 ho), if_pos hr]
  · exact afterRound_of_member_roll hm hr

end

theorem RosterEntry.roll_cases (e : RosterEntry) (pulled : Bool) : (pulled = true → e.roll pulled = ⟨true, 0⟩)
    ∧ (pulled = false → e.present = true → e.misses < 2 → e.roll pulled = ⟨true, e.misses + 1⟩)
    ∧ (pulled = false → e.present = true → 2 ≤ e.misses → e.roll pulled = ⟨false, 0⟩)
    ∧ (pulled = false → e.present = false → e.roll pulled = ⟨false, 0⟩) := by
  unfold RosterEntry.roll
  refine ⟨fun hp => if_pos hp, fun hp he hm => ?_, fun hp he hm => ?_, fun hp he => ?_⟩
  · rw [if_neg (by simp [hp]), if_pos he, if_pos hm, he]
  · rw [if_neg (by simp [hp]), if_pos he, if_neg hm.not_gt]
  · rw [if_neg (by simp [hp]), if_neg (by simp [he])]

theorem rolled_spec (m : Membership) (body : Body) : (m.rolled body).rollTimer = 0 ∧ (m.rolled body).state = m.state
    ∧ (m.state = .member → (m.rolled body).syncLosses = 0)
    ∧ (m.state = .joining → (m.rolled body).syncLosses = m.syncLosses)
    ∧ ∀ k : Fin 31, (m.rolled body).roster[k] = m.roster[k].roll (rollPulled body k.val) := by
  refine ⟨rfl, rfl, fun h => if_pos h, fun h => if_neg (by simp [h]), fun k => ?_⟩
  exact Vector.getElem_mapIdx _

/-- Settles O17: every station on the line takes the roll, a joiner because its probe lost the round's kind. -/
theorem rollRoundTakesTheRoll : Obligations.RollRoundTakesTheRoll := by
  refine ⟨fun body k => rfl, fun o banner body out s h ha => ⟨_, exec_roundCommand_closeRound h (restarts_of_kind (by simp)), ?_⟩⟩
  have hleaves := closeRound_leaves (s := s) (o := o) (r := ⟨.roll, banner, body⟩) (out := out) (.inl ha)
  obtain ⟨-, -, hon, -, hs⟩ := h
  have hmembership := hleaves.membership
  rw [s.beforeOrders_membership, afterRound_of_roll ((onLine_iff s).1 hon) rfl hs] at hmembership
  obtain ⟨htimer, hstate, hmember, hjoining, hroster⟩ := rolled_spec s.membership body
  rw [State.refreshFault_membership, hmembership]
  refine ⟨htimer, hstate, hmember, hjoining, fun k => ?_⟩
  rw [hroster]
  exact RosterEntry.roll_cases _ _

theorem rollComesDue_iff {s : State} {o : Offers} {r : Round} {out : OfferOutcome} (h : s.EndsRound o r out)
    (hm : s.membership.state = .member) (hr : r.kind ≠ .roll) :
    s.rollComesDue r = true ↔ s.membership.rollTimer + 1 = s.settings.rollPeriod := by
  obtain ⟨-, ha, ho, hround, -⟩ := h
  simp [State.rollComesDue, State.inRound, ha, ho, hround, hm, hr]

theorem exec_rollTimerDue_of_due {s : State} {o : Offers} {r : Round} {out : OfferOutcome} (h : s.EndsRound o r out)
    (hr : s.restarts r = false) (hd : s.rollComesDue r = true) (i : StartInputs) :
    exec (.rollTimerDue r i) s = .next (s.closeRound o r out).refreshFault := by
  rw [exec_rollTimerDue r i h.1, State.roundEndIf, if_pos hd, State.roundEnd_of_endsRound h, hr]
  rfl

/-- Settles O18: the roll timer of a member by `afterRound_of_member`. -/
theorem rollTimerRisesToThePeriod : Obligations.RollTimerRisesToThePeriod := by
  intro o r out i s h hm hk hr ha
  have hmembership := (closeRound_leaves (s := s) (o := o) (out := out) (.inl ha)).membership
  rw [s.beforeOrders_membership, afterRound_of_member hm hk] at hmembership
  refine ⟨⟨_, exec_roundCommand_closeRound h hr, hmembership⟩, rollComesDue_iff h hm hk,
    fun hd => ⟨_, exec_rollTimerDue_of_due h hr hd i, ?_⟩⟩
  have hperiod := (rollComesDue_iff h hm hk).1 hd
  rw [hperiod, Nat.min_self] at hmembership
  refine ⟨hmembership, ?_⟩
  obtain ⟨-, hsettings, -⟩ := s.closeRound_keeps o r out
  rw [State.wantsRoll, State.refreshFault_membership, State.refreshFault_settings, hmembership, hsettings]
  simp [hm]

/-! ### The probe that settles a joiner (R27, R28, R29) -/

section
variable {banner : Banner} {body : Body} {out : OfferOutcome}

theorem probeResult_probe_cases : (checkGood .probe body = false → probeResult ⟨.probe, banner, body⟩ out = .stay)
    ∧ (checkGood .probe body = true →
      (out = .won → defendPulled body = false → probeResult ⟨.probe, banner, body⟩ out = .admitted)
      ∧ (out = .won → defendPulled body = true → probeResult ⟨.probe, banner, body⟩ out = .duplicate)
      ∧ (∀ k, out = .withdrew k → (k ≤ 4 ∨ 21 ≤ k) → probeResult ⟨.probe, banner, body⟩ out = .stay)
      ∧ ∀ k, out = .withdrew k → 5 ≤ k → k ≤ 20 → probeResult ⟨.probe, banner, body⟩ out = .duplicate) := by
  unfold probeResult
  refine ⟨fun hc => if_pos (by simp [hc]), fun hc => ?_⟩
  rw [if_neg (by simp [hc])]
  refine ⟨fun ho hd => ?_, fun ho hd => ?_, fun k ho hk => ?_, fun k ho h5 h20 => ?_⟩
  · rw [ho]; exact if_neg (by simp [hd])
  · rw [ho]; exact if_pos hd
  · rw [ho]; exact if_neg (by omega)
  · rw [ho]; exact if_pos ⟨h5, h20⟩

end

/-- The monitors through a round end that is no incident: only a withdrawal touches them (R60, R61). -/
theorem beforeOrders_monitors {s : State} {o : Offers} {r : Round} {out : OfferOutcome} (ho : s.onLine = true)
    (hr : r.kind ≠ .incident) :
    ((s.beforeOrders o r out).membership.state = .withdrawn → (s.beforeOrders o r out).monitors = clearTripCounts s.monitors)
    ∧ ((s.beforeOrders o r out).membership.state ≠ .withdrawn → (s.beforeOrders o r out).monitors = s.monitors) := by
  have hengine : (s.beforeOrders o r out).monitors = (s.beforeEngine o r out).monitors :=
    (engineRoundEnd_monitors _ o r _ _).trans (if_neg fun h => hr h.1)
  have htaken : (s.lineTaken r).monitors = s.monitors := (lineTaken_side s r).2.2.2.1
  rw [hengine, (s.beforeOrders_engineSide o r out).1]
  rcases beforeEngine_cases o r out ho with h | ⟨m, h, hm⟩
  · have hcleared : (s.beforeEngine o r out).monitors = clearTripCounts s.monitors := by
      rw [h, ← htaken]; exact (s.lineTaken r).depart_acquisition.2.2.1
    exact ⟨fun _ => hcleared, fun hw => absurd (by rw [h]; rfl) hw⟩
  · rw [h]
    refine ⟨fun hw => ?_, fun _ => htaken⟩
    have hstate : m.state = .withdrawn := hw
    rw [hstate] at hm
    exact absurd hm (by simp)

theorem faultCondition_of_withdrawn {s : State} (h : s.membership.state = .withdrawn) : s.faultCondition = true := by
  simp [State.faultCondition, h]

/-- Settles O19: the probe's result by its cases; a joiner never comes to rest, so an incident round leaves it as it is. -/
theorem probeRoundSettlesTheJoiner : Obligations.ProbeRoundSettlesTheJoiner := by
  refine ⟨fun o code banner body out s h hj ho ha => ⟨_, exec_roundCommand_closeRound h (restarts_of_kind (by simp)), ?probe⟩,
    fun o code banner body out s h hj ho => ⟨?lost, _, exec_roundCommand_closeRound h (restarts_of_kind (by simp)), ?incident⟩,
    fun body => rfl⟩
  case probe =>
    have hleaves := closeRound_leaves (s := s) (o := o) (r := ⟨.probe, banner, body⟩) (out := out) (.inl ha)
    obtain ⟨-, -, hon, -, -⟩ := h
    obtain ⟨hcleared, hkept⟩ := beforeOrders_monitors (o := o) (out := out) (r := ⟨.probe, banner, body⟩) hon (by simp)
    obtain ⟨halert, hinputs⟩ := clearTripCounts_spec s.monitors
    obtain ⟨-, -, -, hseeking⟩ := s.beforeOrders_line o ⟨.probe, banner, body⟩ out
    have hafter := afterRound_of_joining (m := s.membership) (period := s.settings.rollPeriod) (r := ⟨.probe, banner, body⟩)
      (out := out) hj ho
    rw [← s.beforeOrders_membership] at hafter
    obtain ⟨hduplicate, hadmitted, hstay⟩ := hafter
    obtain ⟨hbad, hgood⟩ := probeResult_probe_cases (banner := banner) (body := body) (out := out)
    simp only [State.refreshFault_monitors, State.refreshFault_membership, State.refreshFault_line,
      State.refreshFault_faultLow, hleaves.monitors, hleaves.membership, hleaves.line]
    have hwithdrawn (hp : probeResult ⟨.probe, banner, body⟩ out = .duplicate) :
        (s.closeRound o ⟨.probe, banner, body⟩ out).faultCondition = true :=
      faultCondition_of_withdrawn (by rw [hleaves.membership, hduplicate hp])
    refine ⟨?_, hkept, fun hw i => ?_, fun hc => hstay (hbad hc), fun hc hw hd => hadmitted ((hgood hc).1 hw hd),
      fun hc hw hd => ?_, fun k hc hw hk => hstay ((hgood hc).2.2.1 k hw hk), fun k hc hw h5 h20 => ?_⟩
    · by_cases hw : (s.beforeOrders o ⟨.probe, banner, body⟩ out).membership.state = .withdrawn
      · rw [hcleared hw, halert]
      · rw [hkept hw]
    · exact (congrArg (fun ms : Monitors => ms.inputs[i]) (hcleared hw)).trans (hinputs i)
    · have hp := (hgood hc).2.1 hw hd
      exact ⟨hduplicate hp, hwithdrawn hp, hseeking (by rw [hduplicate hp]) hon⟩
    · have hp := (hgood hc).2.2.2 k hw h5 h20
      exact ⟨hduplicate hp, hwithdrawn hp⟩
  case lost => exact (outcome_of_other_kind h.2.2.2.2 (k := .probe) (by rw [ho]; rfl) (by simp)).1
  case incident =>
    obtain ⟨-, ha, hon, -, hs⟩ := h
    obtain ⟨rfl, -⟩ := outcome_of_other_kind hs (k := .probe) (by rw [ho]; rfl) (by simp)
    have hmembership : (s.beforeOrders o ⟨.incident, banner, body⟩ .lostKind).membership = s.membership := by
      rw [s.beforeOrders_membership, (afterRound_of_joining hj ho).2.2 (probeResult_of_lost _)]
      exact if_neg (by simp)
    have hleaves := closeRound_leaves (s := s) (o := o) (r := ⟨.incident, banner, body⟩) (out := .lostKind)
      (.inr (by rw [hmembership, hj]; simp))
    obtain ⟨-, -, hstays, -⟩ := s.beforeOrders_line o ⟨.incident, banner, body⟩ .lostKind
    have hline := hstays (by rw [hmembership, hj]; simp)
    rw [State.refreshFault_membership, State.refreshFault_line, hleaves.membership, hleaves.line, hline]
    exact ⟨hmembership, ha, (nextCount_cases s.line.count ⟨.incident, banner, body⟩).2 (.inl (by simp))⟩

end Sys2Proof.Machine
end

section
/-!
The Incident Engine at a member's round end (O20, O21, O22, O23): what the engine reacts to and what stands after it, its
reaction case by case, the merge and the extension, and the record a capture leaves.
-/

namespace Sys2Proof.Machine

/-! ### The state the engine reacts in, and what is left of its reaction -/

/-- The state in which a member's Incident Engine reacts to the end of a round. -/
structure EngineMeets (s x : State) : Prop where
  member : x.membership.state = .member
  number : x.membership.number = s.membership.number
  settings : x.settings = s.settings
  engine : x.engine = s.engine
  staging : x.staging = s.staging
  monitors : x.monitors = s.monitors
  pins : x.pins = s.pins
  rest : x.rest = s.rest
  sequencer : x.sequencer = s.completePass.sequencer
  arrays : x.arrays = s.arrays

/-- What stands once the engine has reacted, `y` being the state its reaction leaves. -/
structure EngineLeft (s : State) (r : Round) (y u : State) : Prop where
  engine : u.engine = { y.engine with due := r.banner.alert }
  staging : u.staging = y.staging
  monitors : u.monitors = y.monitors
  sequencer : u.sequencer = y.sequencer
  membership : u.membership = y.membership
  ring : u.ring = y.ring
  pins : u.pins = pinsRoundEnd s.settings.pinMode (r.kind == .incident)
    (s.engine.state == .capturing && y.engine.state == .idle) y.engine.state y.pins

section
variable {s : State} {o : Offers} {r : Round} {out : OfferOutcome}

theorem beforeEngine_member (hm : s.membership.state = .member) : (s.beforeEngine o r out).membership.state = .member := by
  rw [← (s.beforeOrders_engineSide o r out).1, s.beforeOrders_membership]
  by_cases hr : r.kind = .roll
  · rw [afterRound_of_member_roll hm hr]; exact hm
  · rw [afterRound_of_member hm hr]; exact hm

theorem engineMeets_beforeEngine (hm : s.membership.state = .member) : EngineMeets s (s.beforeEngine o r out) := by
  have hjoining : s.membership.state = .joining → probeResult r out ≠ .duplicate := by rw [hm]; exact nofun
  obtain ⟨hengine, hstaging, hmonitors, hpins, hrest, hsequencer, -⟩ := s.beforeEngine_side o r out hjoining
  have k : RoundKeeps s (s.beforeEngine o r out) :=
    (((completePass_keeps s).trans (lineRoundEnd_keeps _)).trans (ringRoundEnd_keeps _ r)).trans
      (membershipRoundEnd_keeps _ o r out)
  exact ⟨beforeEngine_member hm, k.number, k.settings, hengine, hstaging, hmonitors, hpins, hrest, hsequencer, k.arrays⟩

theorem engineLeft_beforeOrders (hm : s.membership.state = .member) :
    EngineLeft s r ((s.beforeEngine o r out).engineRoundEnd o r true s.line.count) (s.beforeOrders o r out) := by
  have hmember : ((s.beforeEngine o r out).membership.state == .member) = true := beq_iff_eq.2 (beforeEngine_member hm)
  have k := engineRoundEnd_keeps (s.beforeEngine o r out) o r true s.line.count
  have e := engineRoundEnd_engineKeeps (s.beforeEngine o r out) o r true s.line.count
  have hstate := (congrArg Membership.state e.membership).trans (beforeEngine_member hm)
  rw [State.beforeOrders_eq, hmember]
  refine ⟨?_, rfl, rfl, rfl, rfl, rfl, ?_⟩
  · simp [State.dueRoundEnd, State.pinsAfterRound, hstate]
  · simp [State.dueRoundEnd, State.pinsAfterRound, hstate, k.settings, (engineMeets_beforeEngine hm).settings]

/-- A member that comes no nearer to rest: the state in which its programmer takes the next operation. -/
theorem member_round_settled (hm : s.membership.state = .member) (ha : s.StaysAwake r.banner.stay) :
    ∃ x u : State, s.closeRound o r out = u.take ∧ EngineMeets s x ∧ u.arrays = s.arrays
      ∧ EngineLeft s r (x.engineRoundEnd o r true s.line.count) u := by
  obtain ⟨u, hu, hs⟩ := closeRound_settled (o := o) (out := out) (.inl ha)
  have hleft : EngineLeft s r _ (s.beforeOrders o r out) := engineLeft_beforeOrders hm
  exact ⟨s.beforeEngine o r out, u, hu, engineMeets_beforeEngine hm, hs.arrays.trans (s.beforeOrders_arrays o r out),
    ⟨hs.engine.trans hleft.engine, hs.staging.trans hleft.staging, hs.monitors.trans hleft.monitors,
      hs.sequencer.trans hleft.sequencer, hs.membership.trans hleft.membership, hs.ring.trans hleft.ring,
      hs.pins.trans hleft.pins⟩⟩

end

/-! ### The engine's reaction, case by case -/

/-- The engine once an INCIDENT round has raised its next number (R81). -/
def Engine.numbered (e : Engine) (body : Body) : Engine := { e with next := nextAfter e.next (incidentNumber body) }

/-- The engine of a capture at the end of one of its rounds (R84, R85, R86). -/
def capturedEngine (r : Round) (e : Engine) : Engine :=
  if r.kind = .incident then mergeAndExtend (readAgreement r.body) (countCaptureRound (e.numbered r.body))
  else countCaptureRound e

/-- The round of a capture before its end is looked for. -/
def State.captureCounted (x : State) (r : Round) : State :=
  (x.setMonitors (if r.kind = .incident then clearTrips x.monitors else x.monitors)).setEngine (capturedEngine r x.engine)

section
variable {x : State} {o : Offers} {r : Round}

theorem mergeIncident_cases (a : Word) (e : Engine) : (a = 0 ∨ a = 65535 → mergeIncident a e = e)
    ∧ (¬(a = 0 ∨ a = 65535) → e.merges.length < 4 → mergeIncident a e = { e with merges := e.merges ++ [a] })
    ∧ (¬(a = 0 ∨ a = 65535) → ¬e.merges.length < 4 → mergeIncident a e = { e with overflow := true }) := by
  unfold mergeIncident
  exact ⟨fun h => if_pos h, fun h hl => (if_neg h).trans (if_pos hl), fun h hl => (if_neg h).trans (if_neg hl)⟩

/-- A merge changes the merged numbers and the overflow alone (R85). -/
theorem mergeIncident_only (a : Word) (e : Engine) :
    mergeIncident a e = { e with merges := (mergeIncident a e).merges, overflow := (mergeIncident a e).overflow } := by
  obtain ⟨hno, hroom, hfull⟩ := mergeIncident_cases a e
  by_cases h : a = 0 ∨ a = 65535
  · rw [hno h]
  · by_cases hl : e.merges.length < 4
    · rw [hroom h hl]
    · rw [hfull h hl]

theorem mergeAndExtend_eq (g : Agreement) (e : Engine) : mergeAndExtend g e
    = { e with
        merges := (mergeIncident g.number e).merges, overflow := (mergeIncident g.number e).overflow
        remaining := min (max e.remaining (g.postCode.toNat + 1)) (32 - e.captured)
        cut := e.cut || decide (32 - e.captured < g.postCode.toNat + 1)
        exhausted := e.exhausted || g.number == 65535 } := by
  rw [mergeAndExtend, extendCapture, mergeIncident_only g.number e]
  rfl

theorem capturedEngine_state (r : Round) (e : Engine) : (capturedEngine r e).state = e.state := by
  unfold capturedEngine
  split
  · rw [mergeAndExtend_eq]; rfl
  · rfl

theorem settleIncident_of_capturing (hs : x.engine.state = .capturing) (g : Agreement) (n : RoundCount) (claimed : Bool) :
    x.settleIncident g n claimed = (x.setMonitors (clearTrips x.monitors)).setEngine (mergeAndExtend g x.engine) := by
  simp [State.settleIncident, hs]

theorem settleIncident_of_idle (hs : x.engine.state = .idle) (g : Agreement) (n : RoundCount) (claimed : Bool) :
    x.settleIncident g n claimed = (x.setMonitors (clearTrips x.monitors)).settleIdle g n claimed := by
  simp [State.settleIncident, hs]

/-- The end of the capture, looked for when the round's engine state is settled (R86). -/
def State.endIfSpent (y : State) : State :=
  if y.engine.state == .capturing && y.engine.remaining == 0 then y.endCapture else y

theorem endIfSpent_of_capturing {y : State} (h : y.engine.state = .capturing) :
    y.endIfSpent = if y.engine.remaining = 0 then y.endCapture else y := by
  simp [State.endIfSpent, h]

theorem engineRoundEnd_incident_capture (hk : r.kind = .incident) (hc : o.captureRound = true) (n : RoundCount) :
    x.engineRoundEnd o r true n = ((x.setEngine (countCaptureRound (x.engine.numbered r.body))).settleIncident
      (readAgreement r.body) n o.claims).endIfSpent := by
  simp only [State.engineRoundEnd, hk, hc, beq_self_eq_true, Bool.true_and, if_true]
  rfl

theorem engineRoundEnd_incident (hk : r.kind = .incident) (hc : o.captureRound = false) (n : RoundCount) :
    x.engineRoundEnd o r true n
      = (x.setEngine (x.engine.numbered r.body)).settleIncident (readAgreement r.body) n o.claims := by
  simp [State.engineRoundEnd, hk, hc, Engine.numbered, readAgreement]

theorem engineRoundEnd_other_capture (hk : r.kind ≠ .incident) (hc : o.captureRound = true) (n : RoundCount) :
    x.engineRoundEnd o r true n = (x.setEngine (countCaptureRound x.engine)).endIfSpent := by
  simp only [State.engineRoundEnd, beq_eq_false_iff_ne.2 hk, hc, Bool.false_and, Bool.true_and, if_true]
  rfl

theorem engineRoundEnd_other (hk : r.kind ≠ .incident) (hc : o.captureRound = false) (n : RoundCount) :
    x.engineRoundEnd o r true n = x := by
  simp [State.engineRoundEnd, hk, hc]

/-- The end of a capture round: one more round counted, and the capture ended once none remains. -/
theorem engineRoundEnd_capture (hc : o.captureRound = true) (hs : x.engine.state = .capturing) (n : RoundCount) :
    x.engineRoundEnd o r true n = if (capturedEngine r x.engine).remaining = 0 then (x.captureCounted r).endCapture
      else x.captureCounted r := by
  have hcounted : x.engineRoundEnd o r true n = (x.captureCounted r).endIfSpent := by
    unfold State.captureCounted capturedEngine
    by_cases hk : r.kind = .incident
    · rw [engineRoundEnd_incident_capture hk hc, settleIncident_of_capturing (by exact hs), if_pos hk, if_pos hk]
      rfl
    · rw [engineRoundEnd_other_capture hk hc, if_neg hk, if_neg hk]
      rfl
  have hstate : (x.captureCounted r).engine.state = .capturing := (capturedEngine_state r x.engine).trans hs
  rw [hcounted, endIfSpent_of_capturing hstate]
  rfl

end

section
variable {x : State} (g : Agreement) (n : RoundCount)

theorem settleIdle_of_exhausted (hg : g.number = 65535) (claimed : Bool) :
    x.settleIdle g n claimed = x.setEngine { x.engine with exhausted := true } := if_pos hg

theorem settleIdle_of_missed (hg : g.number ≠ 65535) {claimed : Bool} (h : g.number = 0 ∨ claimed = false) :
    x.settleIdle g n claimed = x.setEngine (countMiss g.number x.engine) := by
  rw [State.settleIdle, if_neg hg, if_neg]
  rintro ⟨h0, hclaimed⟩
  rcases h with h | h
  · exact h0 h
  · rw [hclaimed] at h; exact Bool.noConfusion h

theorem settleIdle_of_claimed (hg : g.number ≠ 65535) (h0 : g.number ≠ 0) {i : SlotId} (hi : x.staging.toOpen = some i) :
    x.settleIdle g n true = x.startCapture g n i := by
  rw [State.settleIdle, if_neg hg, if_pos ⟨h0, rfl⟩, hi]

end

/-! ### The next incident number (R81) -/

theorem nextAfter_toNat (next a : Word) : (nextAfter next a).toNat = min (max next.toNat (a.toNat + 1)) 65535 := by
  rw [nextAfter, BitVec.toNat_ofNat]
  omega

/-- Settles O20: the engine's number of `closeRound_keeps`, read as a number. -/
theorem incidentRoundRaisesNext : Obligations.IncidentRoundRaisesNext := by
  refine ⟨fun body => ⟨rfl, rfl, rfl, rfl⟩, fun o banner body out s h => ⟨_,
    exec_roundCommand_closeRound h (restarts_of_kind (by simp)), ?_⟩⟩
  obtain ⟨-, -, -, -, -, -, hnext⟩ := s.closeRound_keeps o ⟨.incident, banner, body⟩ out
  have hraised : (s.closeRound o ⟨.incident, banner, body⟩ out).refreshFault.engine.next
      = nextAfter s.engine.next (incidentNumber body) := hnext
  rw [hraised, nextAfter_toNat]
  have := s.engine.next.isLt
  exact ⟨rfl, by omega⟩

/-! ### The pre-incident passes and the slot a capture opens (R67, R83) -/

theorem ringCopy_length (q : Nat) (ring : List Pass) : (ringCopy q ring).length = min q ring.length := by
  simp [ringCopy]
  omega

/-- The newest pass of the ring is the last one copied, and its age is 1. -/
theorem ringCopy_getElem (q : Nat) (ring : List Pass) {k : Nat} (h : k < min q ring.length) :
    (ringCopy q ring)[min q ring.length - 1 - k]?
      = ring[ring.length - 1 - k]?.map fun p => ⟨p.segment, p.short, k + 1, p.samples⟩ := by
  have hage : min q ring.length - (min q ring.length - 1 - k) = k + 1 := by omega
  have hplace : ring.length - q + (min q ring.length - 1 - k) = ring.length - 1 - k := by omega
  rw [ringCopy, List.getElem?_mapIdx, List.getElem?_drop, hage, hplace]

theorem toOpen_cases (q : Staging) : (q.slot0 = .empty → q.toOpen = some .slot0)
    ∧ (q.slot0 ≠ .empty → q.slot1 = .empty → q.toOpen = some .slot1)
    ∧ (q.slot0 ≠ .empty → q.slot1 ≠ .empty → q.toOpen = none) := by
  unfold Staging.toOpen
  refine ⟨fun h => by rw [h], fun h0 h1 => ?_, fun h0 h1 => ?_⟩
  · rw [h1]
    split
    next h => exact absurd h h0
    next => rfl
    next h => exact absurd rfl h
  · split
    · exact absurd ‹_› h0
    · exact absurd ‹_› h1
    · rfl

/-! ### A member settles an incident, idle and capturing (O21, O22, O23) -/

section
variable {s : State} {o : Offers} {r : Round} {out : OfferOutcome}

theorem exec_closeRound_take (h : s.EndsRound o r out) (hr : s.restarts r = false) {u : State}
    (hu : s.closeRound o r out = u.take) : exec (roundCommand r) s = .next u.take.refreshFault := by
  rw [exec_roundCommand_closeRound h hr, hu]

/-- The state an idle member's engine settles an INCIDENT in: the number raised, the trips cleared. -/
def State.incidentHeard (x : State) (body : Body) : State :=
  (x.setEngine (x.engine.numbered body)).setMonitors (clearTrips x.monitors)

theorem engineRoundEnd_idle {x : State} (hk : r.kind = .incident) (hc : o.captureRound = false)
    (hs : x.engine.state = .idle) (n : RoundCount) : x.engineRoundEnd o r true n
      = (x.incidentHeard r.body).settleIdle (readAgreement r.body) n o.claims := by
  rw [engineRoundEnd_incident hk hc, settleIncident_of_idle (by exact hs)]
  rfl

theorem completePass_latest (s : State) : s.completePass.sequencer.latest = s.sequencer.latest := by
  unfold State.completePass
  split <;> rfl

/-- Settles O21: the engine's reaction when it is idle and no capture round runs, and the copy of the ring. -/
theorem idleMemberSettlesTheIncident : Obligations.IdleMemberSettlesTheIncident := by
  refine ⟨fun o banner body out s h hm hs hc ha => ?_,
    fun q ring => ⟨ringCopy_length q ring, fun k hk => ringCopy_getElem q ring hk⟩, toOpen_cases⟩
  obtain ⟨x, u, hu, hx, -, hleft⟩ := member_round_settled (o := o) (r := ⟨.incident, banner, body⟩) (out := out) hm ha
  have hidle : x.engine.state = .idle := (congrArg Engine.state hx.engine).trans hs
  rw [engineRoundEnd_idle rfl hc hidle] at hleft
  have hmonitors : u.monitors = clearTrips x.monitors := hleft.monitors.trans (settleIdle_monitors _ _ _ _)
  obtain ⟨hpending, htripped⟩ := clearTrips_spec x.monitors
  refine ⟨u, exec_closeRound_take h (restarts_of_kind (by simp)) hu, ?_, fun i => ?_, fun hn => ?exhausted,
    fun hn hmiss => ?missed, fun hn h0 hclaims i hi => ?opened⟩
  · rw [hmonitors, hpending]
  · exact (congrArg (fun ms : Monitors => ms.inputs[i].tripped) hmonitors).trans (congrArg Monitor.tripped (htripped i))
  case exhausted =>
    rw [settleIdle_of_exhausted _ _ hn] at hleft
    rw [hleft.engine, ← hx.engine]
    exact ⟨rfl, hidle, rfl⟩
  case missed =>
    rw [settleIdle_of_missed _ _ hn hmiss] at hleft
    rw [hleft.engine, ← hx.engine]
    exact ⟨hidle, rfl, rfl, hleft.staging.trans hx.staging⟩
  case opened =>
    rw [hclaims, settleIdle_of_claimed _ _ hn h0 (i := i) (by exact (congrArg Staging.toOpen hx.staging).trans hi)] at hleft
    rw [hleft.engine, hleft.staging, hleft.membership, hleft.ring, hleft.sequencer, ← hx.engine]
    refine ⟨rfl, rfl, rfl, rfl, rfl, rfl, rfl, rfl, rfl, _, Staging.slot_setSlot_self _ _ _, rfl, rfl, rfl, rfl, hx.number,
      rfl, rfl, rfl, rfl, ?_, ?_, ?_, rfl, rfl, ?_⟩
    · exact congrArg (fun st : Settings => st.burst.length) hx.settings
    · exact congrArg Settings.density hx.settings
    · exact fun j => by simp [State.openConstruction, State.startCapture]
    · show fixBaselines x.settings x.sequencer = _
      rw [hx.settings, hx.sequencer, fixBaselines, completePass_latest]

/-- What an INCIDENT round adds to a capture: the merge, the extension, the exhaustion (R84, R85). -/
theorem capturedEngine_incident (hk : r.kind = .incident) (e : Engine) : capturedEngine r e
    = mergeAndExtend (readAgreement r.body) (countCaptureRound (e.numbered r.body)) := if_pos hk

theorem capturedEngine_other (hk : r.kind ≠ .incident) (e : Engine) : capturedEngine r e = countCaptureRound e := if_neg hk

theorem mergeIncident_merges (a : Word) (e : Engine) : (mergeIncident a e).merges
    = if a = 0 ∨ a = 65535 then e.merges else if e.merges.length < 4 then e.merges ++ [a] else e.merges := by
  unfold mergeIncident
  split
  · rfl
  · exact apply_ite Engine.merges _ _ _

theorem mergeIncident_overflow (a : Word) (e : Engine) : (mergeIncident a e).overflow
    = (e.overflow || decide (a ≠ 0 ∧ a ≠ 65535 ∧ 4 ≤ e.merges.length)) := by
  obtain ⟨hno, hroom, hfull⟩ := mergeIncident_cases a e
  by_cases h : a = 0 ∨ a = 65535
  · rw [hno h, decide_eq_false (by tauto), Bool.or_false]
  · by_cases hl : e.merges.length < 4
    · rw [hroom h hl, decide_eq_false (by omega), Bool.or_false]
    · rw [hfull h hl, decide_eq_true ⟨fun h0 => h (.inl h0), fun h1 => h (.inr h1), by omega⟩, Bool.or_true]

/-- The capture comes to its end when none of its rounds remains (R86). -/
theorem capturedEngine_spent_iff (r : Round) (e : Engine) : (capturedEngine r e).remaining = 0
    ↔ if r.kind = .incident then 32 ≤ e.captured + 1 else e.remaining ≤ 1 := by
  by_cases hk : r.kind = .incident
  · rw [capturedEngine_incident hk, mergeAndExtend_eq, if_pos hk]
    show min (max (e.remaining - 1) ((readAgreement r.body).postCode.toNat + 1)) (32 - (e.captured + 1)) = 0 ↔ _
    omega
  · rw [capturedEngine_other hk, if_neg hk]
    show e.remaining - 1 = 0 ↔ _
    omega

theorem captureComesToEnd_iff (h : s.EndsRound o r out) : s.captureComesToEnd r = true
    ↔ o.captureRound = true ∧ s.engine.state = .capturing
      ∧ (if r.kind = .incident then 32 ≤ s.engine.captured + 1 else s.engine.remaining ≤ 1) := by
  obtain ⟨-, ha, hon, hround, -⟩ := h
  have hspent := capturedEngine_spent_iff r s.engine
  have heq : (capturedEngine r s.engine).remaining = (if r.kind = .incident then
      mergeAndExtend (readAgreement r.body) (countCaptureRound s.engine) else countCaptureRound s.engine).remaining := by
    unfold capturedEngine
    split
    · rw [mergeAndExtend_eq, mergeAndExtend_eq]; rfl
    · rfl
  rw [← hspent, heq]
  simp [State.captureComesToEnd, State.inRound, ha, hon, hround, and_assoc]

theorem finish_of_filling {q : Staging} {i : SlotId} {c : Construction} (h : q.fillingSlot = some (i, c)) (e : Closing) :
    q.finish e = { q.setSlot i (.ready c.primary (recordImage c e)) with handOver := q.handOver ++ [i] } := by
  rw [Staging.finish, h]

/-- What a member's round leaves when it ends the capture (R86). -/
theorem capture_ends {x u : State} (hx : EngineMeets s x) (hc : o.captureRound = true) (hs : s.engine.state = .capturing)
    (hleft : EngineLeft s r (x.engineRoundEnd o r true s.line.count) u)
    (hspent : if r.kind = .incident then 32 ≤ s.engine.captured + 1 else s.engine.remaining ≤ 1)
    {i : SlotId} {c : Construction} (hfill : s.staging.fillingSlot = some (i, c)) :
    u.engine = { capturedEngine r s.engine with state := .idle, due := r.banner.alert }
    ∧ u.staging.slot i = .ready c.primary (recordImage c (capturedEngine r s.engine).closing)
    ∧ u.staging.handOver = s.staging.handOver ++ [i] ∧ u.sequencer.baselines = [] := by
  have hcap : x.engine.state = .capturing := (congrArg Engine.state hx.engine).trans hs
  rw [engineRoundEnd_capture hc hcap, if_pos ((capturedEngine_spent_iff r _).2 (by rw [hx.engine]; exact hspent))] at hleft
  have hstaging : u.staging = s.staging.finish (capturedEngine r s.engine).closing := by
    rw [hleft.staging, ← hx.staging, ← hx.engine]; rfl
  rw [hleft.engine, hleft.sequencer, hstaging, finish_of_filling hfill, ← hx.engine]
  exact ⟨rfl, Staging.slot_setSlot_self _ _ _, rfl, rfl⟩

/-- What a member's round leaves when the capture goes on. -/
theorem capture_goes_on {x u : State} (hx : EngineMeets s x) (hc : o.captureRound = true) (hs : s.engine.state = .capturing)
    (hleft : EngineLeft s r (x.engineRoundEnd o r true s.line.count) u)
    (hspent : ¬if r.kind = .incident then 32 ≤ s.engine.captured + 1 else s.engine.remaining ≤ 1) :
    u.engine = { capturedEngine r s.engine with due := r.banner.alert } ∧ u.staging = s.staging
    ∧ u.sequencer.baselines = s.completePass.sequencer.baselines ∧ u.membership.state = .member := by
  have hcap : x.engine.state = .capturing := (congrArg Engine.state hx.engine).trans hs
  rw [engineRoundEnd_capture hc hcap, if_neg (mt (capturedEngine_spent_iff r _).1 (by rw [hx.engine]; exact hspent))] at hleft
  rw [hleft.engine, hleft.staging, hleft.sequencer, hleft.membership, ← hx.staging, ← hx.sequencer, ← hx.engine]
  exact ⟨rfl, rfl, rfl, hx.member⟩

end

theorem completePass_baselines (s : State) : s.completePass.sequencer.baselines = s.sequencer.baselines := by
  unfold State.completePass
  split <;> rfl

/-- The engine of a capture after an INCIDENT round, field by field. -/
theorem capturedEngine_incident_spec {r : Round} (hk : r.kind = .incident) (e : Engine) :
    (capturedEngine r e).captured = e.captured + 1
    ∧ (capturedEngine r e).remaining
        = min (max (e.remaining - 1) ((incidentPostCode r.body).toNat + 1)) (32 - (e.captured + 1))
    ∧ (capturedEngine r e).cut = (e.cut || decide (32 - (e.captured + 1) < (incidentPostCode r.body).toNat + 1))
    ∧ (capturedEngine r e).merges = (mergeIncident (incidentNumber r.body) e).merges
    ∧ (capturedEngine r e).overflow = (mergeIncident (incidentNumber r.body) e).overflow
    ∧ (capturedEngine r e).exhausted = (e.exhausted || incidentNumber r.body == 65535)
    ∧ (capturedEngine r e).missed = e.missed
    ∧ (capturedEngine r e).next = nextAfter e.next (incidentNumber r.body) := by
  rw [capturedEngine_incident hk, mergeAndExtend_eq, mergeIncident_merges, mergeIncident_merges, mergeIncident_overflow,
    mergeIncident_overflow]
  exact ⟨rfl, rfl, rfl, rfl, rfl, rfl, rfl, rfl⟩

/-- The number an INCIDENT raises does not show in the record. -/
theorem capturedEngine_closing {r : Round} (hk : r.kind = .incident) (e : Engine) : (capturedEngine r e).closing
    = (mergeAndExtend (readAgreement r.body) (countCaptureRound e)).closing := by
  simp only [capturedEngine_incident hk, mergeAndExtend_eq, mergeIncident_merges, mergeIncident_overflow]
  rfl

/-- Settles O22: the engine of a capture, going on and at its end. -/
theorem capturingMemberMergesAndExtends : Obligations.CapturingMemberMergesAndExtends := by
  refine ⟨fun o banner body out s h hm hs hc ha => ?incident, fun o r out s h hk hr hm hs hc ha h2 => ?other⟩
  case incident =>
    obtain ⟨x, u, hu, hx, harrays, hleft⟩ := member_round_settled (o := o) (r := ⟨.incident, banner, body⟩) (out := out) hm ha
    have hexec := exec_closeRound_take h (restarts_of_kind (by simp)) hu
    obtain ⟨hcaptured, hremaining, hcut, hmerges, hoverflow, hexhausted, hmissed, -⟩ :=
      capturedEngine_incident_spec (r := ⟨.incident, banner, body⟩) rfl s.engine
    rw [mergeIncident_merges] at hmerges
    rw [mergeIncident_overflow] at hoverflow
    refine ⟨fun hlt => ⟨_, hexec, ?_⟩, fun heq i c hfill => ⟨u, hexec, ?_⟩⟩
    · obtain ⟨hengine, -, -, -⟩ := capture_goes_on hx hc hs hleft (by simp; omega)
      rw [State.refreshFault_engine, State.take_engine, hengine]
      refine ⟨(capturedEngine_state _ _).trans hs, hcaptured, hremaining, fun hcuts => hcut.trans ?_,
        fun hfits => hcut.trans ?_, hmerges, hoverflow, hexhausted, hmissed⟩
      · rw [decide_eq_true hcuts, Bool.or_true]
      · rw [decide_eq_false (Nat.not_lt.2 hfits), Bool.or_false]
    · obtain ⟨hengine, hslot, hhand, hbase⟩ := capture_ends hx hc hs hleft (by simp; omega) hfill
      have hcuts : (capturedEngine ⟨.incident, banner, body⟩ s.engine).cut = true := hcut.trans (by rw [heq]; simp)
      have hclosing : (capturedEngine ⟨.incident, banner, body⟩ s.engine).closing = ⟨32,
          (if incidentNumber body = 0 ∨ incidentNumber body = 65535 then s.engine.merges
            else if s.engine.merges.length < 4 then s.engine.merges ++ [incidentNumber body] else s.engine.merges),
          s.engine.overflow || decide (incidentNumber body ≠ 0 ∧ incidentNumber body ≠ 65535 ∧ 4 ≤ s.engine.merges.length),
          true⟩ := by
        rw [Engine.closing, hcaptured, hmerges, hoverflow, hcuts, heq]
      rw [hclosing] at hslot
      rw [hengine]
      exact ⟨rfl, hslot, hhand, hbase, harrays, hexhausted, hmissed⟩
  case other =>
    obtain ⟨x, u, hu, hx, harrays, hleft⟩ := member_round_settled (o := o) (r := r) (out := out) hm ha
    obtain ⟨hengine, hstaging, hbase, hmember⟩ := capture_goes_on hx hc hs hleft (by rw [if_neg hk]; omega)
    rw [capturedEngine_other hk] at hengine
    exact ⟨u, exec_closeRound_take h hr hu, hengine, hstaging, hbase.trans (completePass_baselines s), hmember⟩

theorem exec_captureEnd_of_due {s : State} {o : Offers} {r : Round} {out : OfferOutcome} (h : s.EndsRound o r out)
    (hr : s.restarts r = false) (hd : s.captureComesToEnd r = true) (i : StartInputs) :
    exec (.captureEnd r i) s = .next (s.closeRound o r out).refreshFault := by
  rw [exec_captureEnd r i h.1, State.roundEndIf, if_pos hd, State.roundEnd_of_endsRound h, if_neg (by simp [hr])]

/-- Settles O23: the end of a capture at any round, and the record in the slot it filled. -/
theorem captureEndFinishesTheRecord : Obligations.CaptureEndFinishesTheRecord := by
  refine ⟨fun o r out s h => captureComesToEnd_iff h, fun o r out j i c s h hd hm hr ha hfill => ?_⟩
  obtain ⟨hc, hs, hspent⟩ := (captureComesToEnd_iff h).1 hd
  obtain ⟨x, u, hu, hx, harrays, hleft⟩ := member_round_settled (o := o) (r := r) (out := out) hm ha
  obtain ⟨hengine, hslot, hhand, hbase⟩ := capture_ends hx hc hs hleft hspent hfill
  refine ⟨u, by rw [exec_captureEnd_of_due h hr hd j, hu], by rw [hengine], hhand, hbase, harrays, ?missed,
    fun hk => ?other, fun hk => ?incident⟩
  case missed =>
    rw [hengine]
    by_cases hk : r.kind = .incident
    · obtain ⟨-, -, -, -, -, -, hmissed, -⟩ := capturedEngine_incident_spec hk s.engine
      exact hmissed
    · rw [capturedEngine_other hk]; rfl
  case other =>
    rw [capturedEngine_other hk] at hengine hslot
    exact ⟨by rw [hengine]; rfl, hslot⟩
  case incident =>
    obtain ⟨hcaptured, -, -, -, -, -, -, hnext⟩ := capturedEngine_incident_spec hk s.engine
    rw [capturedEngine_closing hk] at hslot
    exact ⟨by rw [mergeAndExtend_eq]; rfl, by rw [hengine]; exact hnext, hslot⟩

end Sys2Proof.Machine
end

section
/-!
The alert pin (O25) and the rest of a station: coming to rest, sensing, and the ends of the rest (O51, O52, O53).
-/

namespace Sys2Proof.Machine

/-! ### The alert pin at a member's round end (R92, R93) -/

section
variable {s x u : State} {o : Offers} {r : Round}

theorem pins_of_engineLeft (hx : EngineMeets s x) (hleft : EngineLeft s r (x.engineRoundEnd o r true s.line.count) u) :
    u.pins = pinsRoundEnd s.settings.pinMode (r.kind == .incident) (s.engine.state == .capturing && u.engine.state == .idle)
      u.engine.state s.pins := by
  have hpins := (engineRoundEnd_engineKeeps x o r true s.line.count).pins
  rw [hleft.pins, hpins, hx.pins, hleft.engine]

theorem pinsRoundEnd_level (incident ended : Bool) (state : IncidentState) (p : Pins) :
    pinsRoundEnd .level incident ended state p = { p with alertLow := state == .capturing || (incident && !ended) } := rfl

/-- The engine's state at the end of a capture round. -/
theorem engineLeft_state_capture {out : OfferOutcome} (h : s.EndsRound o r out) (hx : EngineMeets s x)
    (hleft : EngineLeft s r (x.engineRoundEnd o r true s.line.count) u) (hc : o.captureRound = true)
    (hs : s.engine.state = .capturing) :
    u.engine.state = if s.captureComesToEnd r then .idle else .capturing := by
  have hcap : x.engine.state = .capturing := (congrArg Engine.state hx.engine).trans hs
  have hends : (capturedEngine r x.engine).remaining = 0 ↔ s.captureComesToEnd r = true := by
    rw [captureComesToEnd_iff h, capturedEngine_spent_iff, hx.engine]
    simp [hc, hs]
  rw [hleft.engine, engineRoundEnd_capture hc hcap]
  by_cases he : s.captureComesToEnd r = true
  · rw [if_pos (hends.2 he), if_pos he]; rfl
  · rw [if_neg (mt hends.1 he), if_neg he]
    exact (capturedEngine_state r x.engine).trans hcap

/-- With no capture round, an INCIDENT leaves a capture as it is under way. -/
theorem engineLeft_state_incident (hx : EngineMeets s x) (hleft : EngineLeft s r (x.engineRoundEnd o r true s.line.count) u)
    (hk : r.kind = .incident) (hc : o.captureRound = false) (hs : s.engine.state = .capturing) :
    u.engine.state = .capturing := by
  have hcap : x.engine.state = .capturing := (congrArg Engine.state hx.engine).trans hs
  rw [hleft.engine, engineRoundEnd_incident hk hc, settleIncident_of_capturing (by exact hcap)]
  show (mergeAndExtend _ (x.engine.numbered r.body)).state = _
  rw [mergeAndExtend_eq]
  exact hcap

theorem engineLeft_state_idle (hx : EngineMeets s x) (hleft : EngineLeft s r (x.engineRoundEnd o r true s.line.count) u)
    (hk : r.kind ≠ .incident) (hs : s.engine.state = .idle) : u.engine.state = .idle := by
  have hidle : x.engine.state = .idle := (congrArg Engine.state hx.engine).trans hs
  rw [hleft.engine]
  cases hc : o.captureRound with
  | true =>
    rw [engineRoundEnd_other_capture hk hc, State.endIfSpent]
    simp [countCaptureRound, hidle]
  | false => rw [engineRoundEnd_other hk hc]; exact hidle

/-- In level mode the pin shows whether the capture of a capture round goes on. -/
theorem level_pin_capture {out : OfferOutcome} (h : s.EndsRound o r out) (hx : EngineMeets s x)
    (hleft : EngineLeft s r (x.engineRoundEnd o r true s.line.count) u) (hc : o.captureRound = true)
    (hs : s.engine.state = .capturing) (hlevel : s.settings.pinMode = .level) :
    u.pins.alertLow = !s.captureComesToEnd r := by
  rw [pins_of_engineLeft hx hleft, hlevel, pinsRoundEnd_level, engineLeft_state_capture h hx hleft hc hs, hs]
  cases s.captureComesToEnd r <;> simp

end

theorem depart_pins (s : State) : s.depart.pins = pinsDepart s.settings.pinMode s.pins := by
  have h (t : State) : t.engineDepart.pins = t.pins ∧ t.engineDepart.settings = t.settings := by
    unfold State.engineDepart
    split <;> exact ⟨rfl, rfl⟩
  obtain ⟨hpins, hsettings⟩ := h (((s.setSequencer (sequencerDepart s.sequencer)).setMonitors
    (clearTripCounts s.monitors)).setRing [])
  unfold State.depart
  simp only
  split <;> exact (congrArg₂ (fun st p => pinsDepart st.pinMode p) hsettings hpins)

theorem foreignPulse_pins {s : State} (hm : s.membership.state = .member) (edge : Bool) :
    (s.foreignPulse edge).pins = pinsDepart s.settings.pinMode s.pins := by
  rw [foreignPulse_of_member hm, ← depart_pins]
  split <;> rfl

/-! ### Coming to rest at a round end (R178, R180) -/

theorem enterDormant_pins (s : State) (low : Bool) : (s.enterDormant low).pins = pinsDepart s.settings.pinMode s.pins := by
  rw [State.enterDormant_eq, ← depart_pins]
  split <;> rfl

section
variable {s : State} {o : Offers} {r : Round} {out : OfferOutcome} (h : s.EndsRound o r out)
include h

theorem restComesDue_iff : s.restComesDue r = true
    ↔ s.membership.state = .member ∧ r.banner.stay = false ∧ s.rest.count = 31 := by
  obtain ⟨-, ha, hon, hround, -⟩ := h
  have hcount : (s.rest.count + 1 == Config.restRounds) = (s.rest.count == 31) := by
    rw [Bool.eq_iff_iff, beq_iff_eq, beq_iff_eq]
    show s.rest.count + 1 = 32 ↔ _
    omega
  simp [State.restComesDue, State.inRound, ha, hon, hround, hcount, and_assoc]

theorem exec_enterDormant_of_due (hd : s.restComesDue r = true) (hr : s.restarts r = false) (i : StartInputs) :
    exec (.enterDormant r i) s
      = .next ((s.beforeRest o r out).enterDormant (!r.body.getMsbD 31)).take.refreshFault := by
  obtain ⟨hm, hstay, hcount⟩ := (restComesDue_iff h).1 hd
  obtain ⟨hmembership, hrest, -, -, -⟩ := beforeRest_side s o r out
  have hmember : (s.beforeRest o r out).membership.state = .member := by
    rw [hmembership, (s.beforeOrders_engineSide o r out).1]
    exact beforeEngine_member hm
  have hcount' : (s.beforeRest o r out).rest.count = 31 := by
    rw [hrest, (s.beforeOrders_engineSide o r out).2.2.2, (engineMeets_beforeEngine hm).rest, hcount]
  have hdormant : (s.beforeRest o r out).restRoundEnd r = (s.beforeRest o r out).enterDormant (!r.body.getMsbD 31) := by
    have hon : (s.beforeRest o r out).onLine = true := (onLine_iff _).2 (.inr hmember)
    rcases restRoundEnd_cases (s.beforeRest o r out) r with ⟨ho, -⟩ | ⟨-, hs, -⟩ | ⟨-, -, -, -, heq⟩ | ⟨-, -, hn, -⟩
    · rw [hon] at ho; exact Bool.noConfusion ho
    · rw [hstay] at hs; exact Bool.noConfusion hs
    · exact heq
    · exact absurd ⟨by omega, hmember⟩ hn
  rw [exec_enterDormant r i h.1, State.roundEndIf, if_pos hd, State.roundEnd_of_endsRound h, if_neg (by simp [hr]),
    closeRound_eq, hdormant]

end

theorem take_refreshFault_alert (u : State) : u.take.refreshFault.pins.alertLow = u.pins.alertLow
    ∧ u.take.refreshFault.pins.alertPulse = u.pins.alertPulse := by
  rw [← u.take_pins]
  exact ⟨rfl, rfl⟩

/-- Settles O25: the pin at a member's round end by mode and reaction, at a departure, and when its pulse ends. -/
theorem alertPinShowsTheIncident : Obligations.AlertPinShowsTheIncident := by
  refine ⟨fun o banner body out s h hm ha => ?incident, fun o r out s h hk hr hm ha => ?other,
    fun e o s he hp ha hm hr => ?lost, fun o r out i s h hd hr hlevel => ?rests, fun n s hp hn => ?pulseEnd⟩
  case incident =>
    obtain ⟨x, u, hu, hx, -, hleft⟩ := member_round_settled (o := o) (r := ⟨.incident, banner, body⟩) (out := out) hm ha
    refine ⟨_, exec_closeRound_take h (restarts_of_kind (by simp)) hu, ?_⟩
    rw [(take_refreshFault_alert u).1, (take_refreshFault_alert u).2]
    refine ⟨fun hpulse => ?_, fun hlevel hc => ?_, fun hlevel hc hs => level_pin_capture h hx hleft hc hs hlevel⟩
    · rw [pins_of_engineLeft hx hleft, hpulse]
      exact ⟨rfl, rfl⟩
    · rw [pins_of_engineLeft hx hleft, hlevel, pinsRoundEnd_level]
      cases hs : s.engine.state with
      | idle => simp
      | capturing => simp [engineLeft_state_incident hx hleft rfl hc hs]
  case other =>
    obtain ⟨x, u, hu, hx, -, hleft⟩ := member_round_settled (o := o) (r := r) (out := out) hm ha
    have hother : (r.kind == Kind.incident) = false := beq_eq_false_iff_ne.2 hk
    refine ⟨_, exec_closeRound_take h hr hu, ?_⟩
    rw [(take_refreshFault_alert u).1, (take_refreshFault_alert u).2]
    refine ⟨fun hpulse => ?_, fun hlevel hs => ?_, fun hlevel hs hc => level_pin_capture h hx hleft hc hs hlevel⟩
    · rw [pins_of_engineLeft hx hleft, hpulse, hother]
      exact ⟨rfl, rfl⟩
    · rw [pins_of_engineLeft hx hleft, hlevel, pinsRoundEnd_level, hother, engineLeft_state_idle hx hleft hk hs]
      rfl
  case lost =>
    have hon : s.onLine = true := (onLine_iff s).2 (.inr hm)
    refine ⟨_, _, exec_foreignPulse e hp, exec_driverFault hp, ?_⟩
    have hforeign : (s.lineEdge e).pins = pinsDepart s.settings.pinMode s.pins := by
      rw [lineEdge_of_foreign he ha hon, foreignPulse_pins hm]
    have hdriver : s.driverFaultFound.pins = pinsDepart s.settings.pinMode s.pins := by
      rw [driverFaultFound_of_round ha (by rw [hr]; rfl), driverFault_of_onLine hon, ← depart_pins]
      rfl
    have halert (t : State) : t.refreshFault.pins.alertLow = t.pins.alertLow
      ∧ t.refreshFault.pins.alertPulse = t.pins.alertPulse := ⟨rfl, rfl⟩
    simp only [halert, hforeign, hdriver]
    refine ⟨fun hlevel => ?_, fun hpulse => ?_⟩
    · rw [hlevel]; exact ⟨rfl, rfl⟩
    · rw [hpulse]; exact ⟨rfl, rfl, rfl, rfl⟩
  case rests =>
    refine ⟨_, exec_enterDormant_of_due h hd hr i, ?_⟩
    have k := ordersRoundEnd_orderKeeps (s.beforeOrders o r out) (s.takenOrder r) (replyWon o out)
    have hsettings : (s.beforeRest o r out).settings = s.settings := k.settings.trans (s.beforeOrders_settings o r out)
    rw [(take_refreshFault_alert _).1, enterDormant_pins, hsettings, hlevel]
    rfl
  case pulseEnd =>
    refine ⟨_, exec_alertPulseEnd hp, ?_⟩
    rw [State.alertPulseEnd, if_pos (by simp [hn])]
    exact ⟨rfl, rfl, rfl, rfl, rfl⟩

/-- What a station coming to rest keeps of its departure, whether or not a wake pattern begins at once. -/
theorem enterDormant_leaves (s : State) (low : Bool) :
    (s.enterDormant low).membership = s.membership.rest ∧ (s.enterDormant low).ring = []
    ∧ (s.enterDormant low).orders = s.depart.orders ∧ (s.enterDormant low).lock = s.depart.lock
    ∧ (s.enterDormant low).monitors = clearTripCounts s.monitors ∧ (s.enterDormant low).arrays = s.arrays
    ∧ (s.enterDormant low).line.align = .seeking ∧ (s.enterDormant low).line.round = none
    ∧ (s.enterDormant low).rest.count = 0 ∧ (s.enterDormant low).rest.longLows = 0
    ∧ (s.enterDormant low).rest.window = none := by
  obtain ⟨hring, -, hmonitors, -⟩ := s.depart_acquisition
  have hmembership : s.depart.membership.rest = s.membership.rest := by rw [s.depart_membership]
  rw [State.enterDormant_eq]
  split <;> exact ⟨hmembership, hring, rfl, rfl, hmonitors, s.depart_arrays, rfl, rfl, rfl, rfl, rfl⟩

theorem enterDormant_calm {s : State} (h : s.monitors.alertPending = false) (low : Bool) :
    (s.enterDormant low).rest = restEntered s.settings
    ∧ (s.enterDormant low).line = { s.line.inactive with detector := if low then .timing else .idle, lowTime := 0 } := by
  rw [State.enterDormant_eq, if_neg (by simp [h]), ← s.depart_settings, ← s.depart_line]
  exact ⟨rfl, rfl⟩

theorem enterDormant_alerted {s : State} (h : s.monitors.alertPending = true) (low : Bool) :
    (s.enterDormant low).rest.waking = true ∧ (s.enterDormant low).rest.sense = none
    ∧ (s.enterDormant low).line.pattern = some 0 ∧ (s.enterDormant low).rest.forced = none
    ∧ (s.enterDormant low).line.detector = .idle := by
  rw [State.enterDormant_eq, if_pos h]
  exact ⟨rfl, rfl, rfl, rfl, rfl⟩

theorem afterRound_rest {m : Membership} (h : m.state = .member) (period : Nat) (o : Offers) (r : Round)
    (out : OfferOutcome) : (m.afterRound period o r out).rest = m.rest := by
  by_cases hr : r.kind = .roll
  · rw [afterRound_of_member_roll h hr]; rfl
  · rw [afterRound_of_member h hr]; rfl

/-- What a member's round end leaves of the rest of the station, before it is at rest. -/
theorem beforeRest_member {s : State} (hm : s.membership.state = .member) (o : Offers) (r : Round) (out : OfferOutcome) :
    (s.beforeRest o r out).membership.state = .member ∧ (s.beforeRest o r out).membership.rest = s.membership.rest
    ∧ (s.beforeRest o r out).settings = s.settings ∧ (s.beforeRest o r out).line.pattern = s.line.pattern
    ∧ (s.beforeRest o r out).monitors = if r.kind = .incident then clearTrips s.monitors else s.monitors := by
  have k := ordersRoundEnd_orderKeeps (s.beforeOrders o r out) (s.takenOrder r) (replyWon o out)
  have hmember : (s.beforeOrders o r out).membership.state = .member :=
    (congrArg Membership.state (s.beforeOrders_engineSide o r out).1).trans (beforeEngine_member hm)
  have hline := (s.beforeOrders_line o r out).2.2.1 (by rw [hmember]; simp)
  have hpattern : (s.beforeOrders o r out).line.pattern = s.line.pattern := by rw [hline]
  have hmonitors := (engineLeft_beforeOrders (o := o) (r := r) (out := out) hm).monitors
  simp only [engineRoundEnd_monitors, and_true, (engineMeets_beforeEngine hm).monitors] at hmonitors
  refine ⟨(congrArg Membership.state k.membership).trans hmember, ?_, k.settings.trans (s.beforeOrders_settings o r out),
    (congrArg Line.pattern k.line).trans hpattern, k.monitors.trans hmonitors⟩
  have := congrArg Membership.rest k.membership
  rw [s.beforeOrders_membership, afterRound_rest hm] at this
  exact this

/-- Settles O51: the station that comes to rest departs first; its wake pattern begins where an alert is pending. -/
theorem thirtyTwoReleasedRoundsRest : Obligations.ThirtyTwoReleasedRoundsRest := by
  refine ⟨fun o r out s h => restComesDue_iff h, fun o r out i s h hd hr => ⟨_, exec_enterDormant_of_due h hd hr i, ?_⟩⟩
  obtain ⟨hm, -, -⟩ := (restComesDue_iff h).1 hd
  obtain ⟨hmember, hrest, hsettings, hpattern, hmonitors⟩ := beforeRest_member hm o r out
  obtain ⟨-, -, hengine, -, harrays⟩ := beforeRest_side s o r out
  generalize s.beforeRest o r out = b at hmember hrest hsettings hpattern hmonitors hengine harrays ⊢
  obtain ⟨hm', hring, horders, hlock, hmon, harr, halign, hround, hcount, hlows, hwindow⟩ :=
    enterDormant_leaves b (!r.body.getMsbD 31)
  obtain ⟨hl, hout, hstream, hawaited, -⟩ := State.depart_orders_member hmember
  obtain ⟨hidle, hdue, -⟩ := b.depart_engine
  obtain ⟨hpending, hinputs⟩ := clearTripCounts_spec b.monitors
  rw [horders, hlock, enterDormant_engine, hmon, hpending]
  refine ⟨hm'.trans hrest, halign, hround, hring, hcount, hl, hout, hstream, hawaited, hdue, hidle, harr.trans harrays,
    fun hp => ?calm, fun hp => ?alerted, hlows, hwindow, fun hk => ?other, fun hk => ?incident⟩
  case calm =>
    obtain ⟨hr', hline⟩ := enterDormant_calm hp (!r.body.getMsbD 31)
    rw [hr', hline, hsettings]
    refine ⟨rfl, rfl, rfl, hpattern, ?_, rfl⟩
    cases r.body.getMsbD 31 <;> rfl
  case alerted => exact enterDormant_alerted hp _
  case other =>
    rw [if_neg hk] at hmonitors
    rw [← hmonitors]
    exact ⟨rfl, hinputs⟩
  case incident =>
    rw [if_pos hk] at hmonitors
    obtain ⟨hcleared, htrips⟩ := clearTrips_spec s.monitors
    rw [← hmonitors] at hcleared htrips
    exact ⟨hcleared, fun j => (hinputs j).trans (congrArg (fun m : Monitor => { m with count := 0 }) (htrips j))⟩

/-! ### Sensing, and the ends of the rest (R181–R188) -/

/-- The station once the monitor of its sense input has judged the sample. -/
def State.sensed (s : State) (x : Sample) : State :=
  (s.setSequencer { s.sequencer with converter := .idle, elapsed := 0 }).setMonitors
    (submitSample s.settings s.settings.senseInput x s.monitors).1

theorem senseConversionDone_of_sense {s : State} {x : Sample} (hc : s.sequencer.converter = .sense) :
    s.senseConversionDone x = if (submitSample s.settings s.settings.senseInput x s.monitors).2 && s.resting
      then (s.sensed x).beginPattern else s.sensed x :=
  if_pos hc

/-- Settles O52: each reaction by the branch its hypotheses choose. -/
theorem sensingWakesTheStation : Obligations.SensingWakesTheStation := by
  refine ⟨fun s hp hr => ⟨fun hn => ⟨_, exec_senseTimerExpiry hp, ?sense⟩, fun hn => ⟨_, exec_forcedWakeExpiry hp, ?forced⟩⟩,
    fun x s hp hc => ⟨_, exec_senseConversionDone x hp, ?sample⟩⟩
  case sense =>
    rw [State.senseTimerExpiry, if_pos (by simp [hr, Option.isSome_iff_ne_none, hn])]
    exact ⟨rfl, rfl, rfl, rfl, rfl⟩
  case forced =>
    rw [State.forcedWakeExpiry, if_pos (by simp [hr, Option.isSome_iff_ne_none, hn])]
    exact ⟨rfl, rfl, rfl, rfl, rfl, rfl⟩
  case sample =>
    rw [senseConversionDone_of_sense hc]
    split
    next h =>
      simp only [Bool.and_eq_true] at h
      refine ⟨rfl, rfl, rfl, rfl, fun _ _ => ⟨rfl, rfl⟩, fun hn => ?_⟩
      simp [h.1, h.2] at hn
    next h =>
      refine ⟨rfl, rfl, rfl, rfl, fun ht hr => absurd ?_ h, fun _ => ⟨rfl, rfl⟩⟩
      rw [ht, hr]; rfl

theorem wakePatternEnd_of_dormant {s : State} (hm : s.membership.state = .dormant) (hn : s.line.pattern ≠ none) :
    s.wakePatternEnd = s.leaveDormant :=
  if_pos (by simp [hm, Option.isSome_iff_ne_none, hn])

theorem longLow_of_timing {s : State} (hr : s.resting = true) (hd : s.line.detector = .timing) :
    s.longLow = (s.setLine { s.line with detector := .reported }).countLongLow :=
  if_pos (by simp [hr, hd])

/-- A long low counts by what the station has counted of the wake pattern (R184, R185). -/
theorem countLongLow_cases (s : State) :
    (s.settings.wakeThree = false ∨ 2 ≤ s.rest.longLows → s.countLongLow = s.leaveDormant)
    ∧ (s.settings.wakeThree = true → s.rest.longLows = 0 →
        s.countLongLow = s.setRest { s.rest with longLows := 1, window := some Timer.zero })
    ∧ (s.settings.wakeThree = true → s.rest.longLows = 1 → s.countLongLow = s.setRest { s.rest with longLows := 2 }) := by
  unfold State.countLongLow
  refine ⟨fun h => if_pos (by simpa using h), fun hw hl => ?_, fun hw hl => ?_⟩
  · simp [hw, hl]
  · simp [hw, hl]

/-- Settles O53: each way out of the rest ends in `leaveDormant`. -/
theorem wakesEndInSeeking : Obligations.WakesEndInSeeking := by
  refine ⟨fun s hp hm hn => ⟨_, exec_wakePatternEnd hp, ?pattern⟩, fun s hp hr hd hn => ⟨_, exec_longLow hp, ?longLow⟩⟩
  case pattern =>
    rw [wakePatternEnd_of_dormant hm hn]
    obtain ⟨hpending, hinputs⟩ := clearTripCounts_spec s.monitors
    exact ⟨rfl, rfl, rfl, rfl, rfl, rfl, rfl, rfl, rfl, rfl, hpending, hinputs⟩
  case longLow =>
    rw [longLow_of_timing hr hd]
    obtain ⟨hwakes, hfirst, hsecond⟩ := countLongLow_cases (s.setLine { s.line with detector := .reported })
    refine ⟨fun h => ?_, fun hw hl => ?_, fun hw hl => ?_⟩
    · rw [hwakes h]; exact ⟨rfl, rfl, rfl, rfl, rfl, rfl⟩
    · rw [hfirst hw hl]; exact ⟨rfl, rfl, rfl⟩
    · rw [hsecond hw hl]; exact ⟨rfl, rfl, rfl⟩

end Sys2Proof.Machine
end

section
/-!
The record image (O24): the fields of its packed words, its length, and what its check covers.
-/

namespace Sys2Proof.Machine

/-! ### Packed words -/

/-- A single bit appended below: bit 0 is that bit, and the bits above move up by one. -/
theorem getLsbD_append_bit {n : Nat} (x : BitVec n) (f : BitVec 1) :
    (x ++ f).getLsbD 0 = f.getLsbD 0 ∧ ∀ k, (x ++ f).getLsbD (k + 1) = x.getLsbD k := by
  exact ⟨by rw [BitVec.getLsbD_append, if_pos Nat.one_pos], fun k => by rw [BitVec.getLsbD_append, if_neg (by omega)]; rfl⟩

section
variable (a : BitVec 5) (b d : BitVec 2) (r : BitVec 5) (f g : BitVec 1)

/-- The word of the station, the burst and density codes, the rounds and the two flags (R97). -/
theorem shape_fields : (a ++ b ++ d ++ r ++ f ++ g).extractLsb' 11 5 = a ∧ (a ++ b ++ d ++ r ++ f ++ g).extractLsb' 9 2 = b
    ∧ (a ++ b ++ d ++ r ++ f ++ g).extractLsb' 7 2 = d ∧ (a ++ b ++ d ++ r ++ f ++ g).extractLsb' 2 5 = r
    ∧ (a ++ b ++ d ++ r ++ f ++ g).getLsbD 1 = f.getLsbD 0 ∧ (a ++ b ++ d ++ r ++ f ++ g).getLsbD 0 = g.getLsbD 0 := by
  have above (k l : Nat) : (a ++ b ++ d ++ r ++ f ++ g).extractLsb' (7 + k) l = (a ++ b ++ d).extractLsb' k l := by
    have hg := extract_append_high (a ++ b ++ d ++ r ++ f) g (1 + (5 + k)) l
    have hf := extract_append_high (a ++ b ++ d ++ r) f (5 + k) l
    have hr := extract_append_high (a ++ b ++ d) r k l
    rw [show 7 + k = 1 + (1 + (5 + k)) by omega]
    exact hg.trans (hf.trans hr)
  refine ⟨?_, ?_, ?_, ?_, ?_, (getLsbD_append_bit _ g).1⟩
  · exact (above 4 5).trans ((extract_append_high (a ++ b) d 2 5).trans ((extract_append_high a b 0 5).trans (extract_all a)))
  · exact (above 2 2).trans ((extract_append_high (a ++ b) d 0 2).trans (extract_append_low a b))
  · exact (above 0 2).trans (extract_append_low (a ++ b) d)
  · exact (extract_append_high (a ++ b ++ d ++ r ++ f) g 1 5).trans ((extract_append_high (a ++ b ++ d ++ r) f 0 5).trans
      (extract_append_low (a ++ b ++ d) r))
  · exact ((getLsbD_append_bit _ g).2 0).trans (getLsbD_append_bit _ f).1

end

/-- The word of the origin and the two codes. -/
theorem origin_fields (a : BitVec 8) (b d : BitVec 4) : (a ++ b ++ d).extractLsb' 8 8 = a
    ∧ (a ++ b ++ d).extractLsb' 4 4 = b ∧ (a ++ b ++ d).extractLsb' 0 4 = d :=
  ⟨(extract_append_high (a ++ b) d 4 8).trans ((extract_append_high a b 0 8).trans (extract_all a)),
    (extract_append_high (a ++ b) d 0 4).trans (extract_append_low a b), extract_append_low (a ++ b) d⟩

/-- The word of the stamp's low bits, the merges, the missed incidents and the short flag. -/
theorem missed_fields (a : BitVec 8) (b : BitVec 3) (d : BitVec 4) (f : BitVec 1) :
    (a ++ b ++ d ++ f).extractLsb' 8 8 = a ∧ (a ++ b ++ d ++ f).extractLsb' 5 3 = b
    ∧ (a ++ b ++ d ++ f).extractLsb' 1 4 = d ∧ (a ++ b ++ d ++ f).getLsbD 0 = f.getLsbD 0 :=
  ⟨(extract_append_high (a ++ b ++ d) f 7 8).trans ((extract_append_high (a ++ b) d 3 8).trans
      ((extract_append_high a b 0 8).trans (extract_all a))),
    (extract_append_high (a ++ b ++ d) f 4 3).trans ((extract_append_high (a ++ b) d 0 3).trans (extract_append_low a b)),
    (extract_append_high (a ++ b ++ d) f 0 4).trans (extract_append_low (a ++ b) d), (getLsbD_append_bit _ f).1⟩

/-- The header word of a copied pass (R99). -/
theorem pass_fields (a b : BitVec 4) (f : BitVec 1) (d : BitVec 7) : (a ++ b ++ f ++ d).extractLsb' 12 4 = a
    ∧ (a ++ b ++ f ++ d).extractLsb' 8 4 = b ∧ (a ++ b ++ f ++ d).getLsbD 7 = f.getLsbD 0
    ∧ (a ++ b ++ f ++ d).extractLsb' 0 7 = d :=
  ⟨(extract_append_high (a ++ b ++ f) d 5 4).trans ((extract_append_high (a ++ b) f 4 4).trans
      ((extract_append_high a b 0 4).trans (extract_all a))),
    (extract_append_high (a ++ b ++ f) d 1 4).trans ((extract_append_high (a ++ b) f 0 4).trans (extract_append_low a b)),
    by rw [BitVec.getLsbD_append, if_neg (by omega)]; exact (getLsbD_append_bit _ f).1, extract_append_low (a ++ b ++ f) d⟩

/-- A flag of one bit reads as the flag. -/
theorem flagBit_getLsbD (b : Bool) : (flagBit b).getLsbD 0 = b := by cases b <;> rfl

/-- One packing step: the new bit in bit 0, the others moved up. -/
theorem packStep_getLsbD (w : Word) (b : Bool) : ((w <<< 1) ||| (if b then 1 else 0)).getLsbD 0 = b
    ∧ ∀ j, j + 1 < 16 → ((w <<< 1) ||| (if b then 1 else 0)).getLsbD (j + 1) = w.getLsbD j := by
  refine ⟨?_, fun j hj => ?_⟩
  · cases b <;> simp
  · have hw : w.getLsbD j = w[j] := BitVec.getLsbD_eq_getElem (by omega)
    cases b <;> simp [hj, hw]

/-- The bits packed by the first `n` steps, the last one in bit 0. -/
theorem packed_getLsbD (bs : List Bool) {n : Nat} (hn : n ≤ 16) : ∀ j < n,
    ((List.range n).foldl (fun (w : Word) k => (w <<< 1) ||| (if bs.getD k false then 1 else 0)) 0).getLsbD j
      = bs.getD (n - 1 - j) false := by
  induction n with
  | zero => exact fun j hj => absurd hj (Nat.not_lt_zero j)
  | succ n ih =>
    intro j hj
    rw [List.range_succ, List.foldl_append, List.foldl_cons, List.foldl_nil]
    cases j with
    | zero => exact (packStep_getLsbD _ _).1
    | succ j =>
      rw [(packStep_getLsbD _ _).2 j (by omega), ih (by omega) j (by omega), show n - 1 - j = n + 1 - 1 - (j + 1) by omega]

theorem packBits_getLsbD (bs : List Bool) {k : Nat} (h : k < 16) : (packBits bs).getLsbD (15 - k) = bs.getD k false := by
  have hbit := packed_getLsbD bs (Nat.le_refl 16) (15 - k) (by omega)
  rw [packBits, hbit, show 16 - 1 - (15 - k) = k by omega]

/-! ### The check over whole words (R7) -/

theorem crc16_append (ws : List Word) (w : Word) : crc16 (ws ++ [w]) = (List.range 16).foldl
    (fun (g : Word) k => if g.msb = w.getMsbD k then g <<< 1 else (g <<< 1) ^^^ 0x1021) (crc16 ws) := by
  rw [crc16, List.foldl_append]
  simp only [List.foldl_cons, List.foldl_nil, lineBits, List.foldl_map]
  rfl

/-! ### The image: its length, its check, its words (R96–R103) -/

section
variable (c : Construction) (e : Closing)

/-- The words the check of a record covers. -/
def coveredWords : List Word := BitVec.ofNat 16 ((recordBody c e).length + 3) :: recordBody c e

theorem recordImage_eq : recordImage c e = 0xFFFF :: (coveredWords c e ++ [crc16 (coveredWords c e)]) := rfl

theorem recordImage_length : (recordImage c e).length = (recordBody c e).length + 3 := by
  simp [recordImage_eq, coveredWords]

theorem recordImage_covered : (recordImage c e).dropLast.drop 1 = coveredWords c e := by
  rw [recordImage_eq, ← List.cons_append, List.dropLast_concat]
  rfl

theorem passWords_length (p : CopiedPass) : (passWords p).length = p.samples.length + 1 := by simp [passWords]

theorem recordBody_length : (recordBody c e).length = 8 + e.merges.length
    + (c.pre.map fun p => p.samples.length + 1).sum + (c.blocks.map List.length).sum + c.baselines.length := by
  simp [recordBody, headerWords, List.length_flatten, List.map_map, Function.comp_def, passWords_length]
  omega

end

theorem sum_le_of_each_le {α : Type} (xs : List α) (size : α → Nat) {m : Nat} (h : ∀ x ∈ xs, size x ≤ m) :
    (xs.map size).sum ≤ xs.length * m := by
  simpa using List.sum_le_card_nsmul (xs.map size) m (by simpa using h)

theorem le_sum_of_each_le {α : Type} (xs : List α) (size : α → Nat) {m : Nat} (h : ∀ x ∈ xs, m ≤ size x) :
    xs.length * m ≤ (xs.map size).sum := by
  simpa using List.card_nsmul_le_sum (xs.map size) m (by simpa using h)

/-- Settles O24: the words of the image by its definition, each packed word by its fields. -/
theorem recordImageFitsItsLimits : Obligations.RecordImageFitsItsLimits := by
  refine ⟨fun c e hmerges hpre hsamples hbase1 hbase4 hblocks1 hblocks32 hblocks => ?limits, fun c e => ?words,
    fun p => ?pass, fun b => (BitVec.ofNat_toNat 16 b).symm, rfl, rfl, crc16_append⟩
  case limits =>
    have hpasses := sum_le_of_each_le c.pre (fun p => p.samples.length + 1) (m := 13)
      fun p hp => Nat.succ_le_succ (hsamples p hp)
    have hmost := sum_le_of_each_le c.blocks List.length (m := 16) fun b hb => (hblocks b hb).2
    have hleast := le_sum_of_each_le c.blocks List.length (m := 1) fun b hb => (hblocks b hb).1
    have hlength := recordImage_length c e
    rw [recordBody_length] at hlength
    refine ⟨by omega, by omega, rfl, ?_, ?_⟩
    · rw [recordImage_length]; rfl
    · rw [recordImage_covered, recordImage_eq, ← List.cons_append, List.getLast?_concat]
  case words =>
    obtain ⟨horigin, hdepth, hpost⟩ := origin_fields c.origin c.preDepth c.postCode
    obtain ⟨hstation, hburst, hdensity, hrounds, hoverflow, hcut⟩ := shape_fields c.station
      (BitVec.ofNat 2 (c.burstLength - 1)) (densityCode c.density) (BitVec.ofNat 5 (e.rounds - 1)) (flagBit e.overflow)
      (flagBit e.cut)
    obtain ⟨hstamp, hmerges, hmissed, hshort⟩ := missed_fields (c.stamp.extractLsb' 0 8) (BitVec.ofNat 3 e.merges.length)
      (BitVec.ofNat 4 c.missed) (flagBit (c.pre.any fun p => p.short))
    refine ⟨rfl, horigin, hdepth, hpost, hstation, fun h1 h4 => ?_, fun hd => hdensity.trans ?_, fun hd => hdensity.trans ?_,
      fun hd => hdensity.trans ?_, fun h1 h32 => ?_, hoverflow.trans (flagBit_getLsbD _), hcut.trans (flagBit_getLsbD _),
      rfl, hstamp, fun h4 => ?_, fun h15 => ?_, ?_, fun k hk => ?_, fun k hk => ?_, ?_, rfl, ?_⟩
    · refine (congrArg BitVec.toNat hburst).trans ?_
      rw [BitVec.toNat_ofNat]; omega
    · rw [hd]; rfl
    · rw [hd]; rfl
    · rw [hd]; rfl
    · refine (congrArg BitVec.toNat hrounds).trans ?_
      rw [BitVec.toNat_ofNat]; omega
    · refine (congrArg BitVec.toNat hmerges).trans ?_
      rw [BitVec.toNat_ofNat]; omega
    · refine (congrArg BitVec.toNat hmissed).trans ?_
      rw [BitVec.toNat_ofNat]; omega
    · rw [← List.any_eq_true, ← flagBit_getLsbD (c.pre.any fun p => p.short), ← hshort]
      rfl
    · refine (packBits_getLsbD _ hk).trans ?_
      simp [hk]
    · have hword : (packBits ((c.roster.toList.drop 16).take 15)).getLsbD (31 - k.val) = c.roster[k] := by
        rw [show 31 - k.val = 15 - (k.val - 16) by omega, packBits_getLsbD _ (by omega)]
        simp [show k.val - 16 < 15 by omega, show 16 + (k.val - 16) = k.val by omega]
      exact hword
    · refine (packBits_getLsbD ((c.roster.toList.drop 16).take 15) (k := 15) (by omega)).trans ?_
      simp
    · rw [recordImage_covered]
      rfl
  case pass =>
    obtain ⟨hsegment, hcount, hshort, hage⟩ := pass_fields (BitVec.ofNat 4 p.segment) (BitVec.ofNat 4 p.samples.length)
      (flagBit p.short) (BitVec.ofNat 7 p.age)
    refine ⟨?_, fun h => ?_, fun h => ?_, hshort.trans (flagBit_getLsbD _), fun h => ?_⟩
    · simp [passWords, BitVec.ofNat_toNat]
    · refine (congrArg BitVec.toNat hsegment).trans ?_
      rw [BitVec.toNat_ofNat]; omega
    · refine (congrArg BitVec.toNat hcount).trans ?_
      rw [BitVec.toNat_ofNat]; omega
    · refine (congrArg BitVec.toNat hage).trans ?_
      rw [BitVec.toNat_ofNat]; omega

end Sys2Proof.Machine
end

section
/-!
Orders to the station (O28, O31, O34, O35, O38): FETCH of a number, MARK, PROGRAM, ERASE of a bank, and the order a station
that is not OPEN refuses.
-/

namespace Sys2Proof.Machine

/-! ### What an order looks up (R119, R144, R145) -/

theorem held_iff (q : Staging) (n : Word) : q.held n = true ↔ ∃ i, (∃ c, q.slot i = .filling c ∧ c.primary = n)
    ∨ (∃ w, q.slot i = .ready n w) ∨ ∃ w, q.slot i = .committing n w := by
  have hslot (v : Slot) : (v.holds == some n) = true ↔ (∃ c, v = .filling c ∧ c.primary = n)
      ∨ (∃ w, v = .ready n w) ∨ ∃ w, v = .committing n w := by
    cases v <;> simp [Slot.holds]
  rw [Staging.held, Bool.or_eq_true, hslot, hslot]
  constructor
  · rintro (h | h)
    · exact ⟨.slot0, h⟩
    · exact ⟨.slot1, h⟩
  · rintro ⟨i, h⟩
    cases i with
    | slot0 => exact .inl h
    | slot1 => exact .inr h

theorem findByNumber_eq_none_iff (t : Store) (m : Arrays) (n : Word) :
    findByNumber t m n = none ↔ ∀ y ∈ storeOrder t m, extentPrimary (m.bank y.1) y.2 ≠ n := by
  simp [findByNumber]

theorem programming_iff (p : Programmer) (b : BankId) : p.programming b = true ↔ ∃ w, p.op = .word w ∧ w.bank = b := by
  unfold Programmer.programming
  cases p.op <;> simp

theorem bankErasing_iff (s : State) : s.bankErasing = true ↔ ∃ b h, s.programmer.op = .bankErase b h := by
  unfold State.bankErasing
  cases s.programmer.op <;> simp

theorem commitWriting_iff (b : BankId) (s : State) : s.commitWriting b = true
    ↔ (∃ c, s.programmer.commit = some c ∧ c.bank = b)
      ∨ (s.programmer.commit = none ∧ ∃ w, s.programmer.op = .word w ∧ w.purpose = .header ∧ w.bank = b) := by
  unfold State.commitWriting
  cases s.programmer.commit with
  | some c => simp
  | none => cases s.programmer.op <;> simp

/-! ### The state an order is accepted in -/

/-- The state in which the station handles an order it takes. -/
def State.accepted (s : State) (o : Offers) (out : OfferOutcome) (banner : Banner) (code : OrderCode) (arg : Word) : State :=
  (s.beforeOrders o (s.orderRound banner code arg) out).acceptOrder code arg

section
variable {s : State} {o : Offers} {out : OfferOutcome} {banner : Banner} {code : OrderCode} {arg : Word}

/-- As `orderToStation_handled`, with the state the order is accepted in named. -/
theorem orderToStation_accepted (h : s.TakesOrder o out banner code arg) (i : StartInputs)
    (hc : code ≠ .restart ∨ s.lock ≠ .opened)
    (hk : HandlingKeeps (s.accepted o out banner code arg) ((s.accepted o out banner code arg).handleOrder code arg)) :
    ∃ u, s.orderToStation banner code arg i = u.take ∧ s.OrderLeaves u
      ∧ HandledAs ((s.accepted o out banner code arg).handleOrder code arg) u := by
  obtain ⟨n, hn⟩ := orderToStation_awake h i hc
  obtain ⟨hop, hcommit, htimer⟩ := hk
  exact ⟨_, hn, orderLeaves_of_handled h n rfl hop hcommit htimer, ⟨rfl, rfl, rfl, rfl, rfl⟩⟩

/-- A finished record still holds its number. -/
theorem finish_held (q : Staging) (e : Closing) (n : Word) : (q.finish e).held n = q.held n := by
  cases hf : q.fillingSlot with
  | none => rw [Staging.finish, hf]
  | some y =>
    obtain ⟨i, c⟩ := y
    obtain ⟨hc, -⟩ := (fillingSlot_eq_some_iff q i c).1 hf
    rw [finish_of_filling hf]
    cases i with
    | slot0 => rw [Staging.held, Staging.held, show q.slot0 = .filling c from hc]; rfl
    | slot1 => rw [Staging.held, Staging.held, show q.slot1 = .filling c from hc]; rfl

/-- A round that is no INCIDENT leaves the numbers a member holds in staging. -/
theorem beforeOrders_held {r : Round} (hm : s.membership.state = .member) (hk : r.kind ≠ .incident) (n : Word) :
    (s.beforeOrders o r out).staging.held n = s.staging.held n := by
  have hleft : EngineLeft s r _ (s.beforeOrders o r out) := engineLeft_beforeOrders hm
  have hmeets := engineMeets_beforeEngine (o := o) (r := r) (out := out) hm
  rw [hleft.staging, ← hmeets.staging]
  cases hc : o.captureRound with
  | false => rw [engineRoundEnd_other hk hc]
  | true =>
    rw [engineRoundEnd_other_capture hk hc, State.endIfSpent]
    split
    · exact finish_held _ _ n
    · rfl

theorem accepted_held (h : s.TakesOrder o out banner code arg) (n : Word) :
    (s.accepted o out banner code arg).staging.held n = s.staging.held n := by
  obtain ⟨-, hm, -⟩ := h
  have k := acceptOrder_orderKeeps (s.beforeOrders o (s.orderRound banner code arg) out) code arg
  rw [State.accepted, k.staging, beforeOrders_held hm (by simp [State.orderRound])]

end

/-! ### FETCH of a number (R144) -/

section
variable {x : State} {n : Word}

theorem handleOrder_fetch_number (hl : x.lock = .opened) (h0 : n ≠ 0) (h1 : n ≠ 0xFFFF) :
    x.handleOrder .fetch n = x.fetchNumber n := by
  have hfetch : x.handleOrder .fetch n = x.fetchOrder n := by simp [State.handleOrder, hl]
  rw [hfetch, State.fetchOrder, if_neg h1, if_neg h0]

theorem fetchNumber_of_held (h : x.staging.held n = true) : x.fetchNumber n = x.loadReply .busy n := if_pos h

theorem fetchNumber_of_none (h : x.staging.held n = false) (hf : findByNumber x.store x.arrays n = none) :
    x.fetchNumber n = x.loadReply .absent n := by
  simp [State.fetchNumber, h, hf]

theorem fetchNumber_of_some {b : BankId} {y : Extent} (h : x.staging.held n = false)
    (hf : findByNumber x.store x.arrays n = some (b, y)) :
    x.fetchNumber n = x.readStream (.record b y.position y.length 0 n) := by
  simp [State.fetchNumber, h, hf]

/-- FETCH of a number leaves all but the outbox, the stream and its read. -/
theorem fetchNumber_keeps (x : State) (n : Word) : (x.fetchNumber n).programmer = x.programmer
    ∧ (x.fetchNumber n).orders.openTimer = x.orders.openTimer ∧ (x.fetchNumber n).store = x.store
    ∧ (x.fetchNumber n).lock = x.lock ∧ (x.fetchNumber n).orders.awaited = x.orders.awaited
    ∧ (x.fetchNumber n).orders.holding = x.orders.holding
    ∧ (x.fetchNumber n).orders.pulseCount = x.orders.pulseCount := by
  unfold State.fetchNumber
  split
  · exact ⟨rfl, rfl, rfl, rfl, rfl, rfl, rfl⟩
  · split
    · exact ⟨rfl, rfl, rfl, rfl, rfl, rfl, rfl⟩
    next y _ =>
      obtain ⟨hprogrammer, htimer, hstore, hlock, -, -, hholding, hawaited, hcount⟩ := readStream_keeps x
        (.record y.1 y.2.position y.2.length 0 n)
      exact ⟨hprogrammer, htimer, hstore, hlock, hawaited, hholding, hcount⟩

end

/-- Settles O28: the lookups by their definitions, the order by where the number is found. -/
theorem fetchAnswersOrStreams : Obligations.FetchAnswersOrStreams := by
  refine ⟨held_iff, fun t m => ?order, fun t m => ?newer, fun t m n => ?found, programming_iff, ?fetch⟩
  case order => exact congrArg₂ (· ++ ·) (bankRecords_eq t _) (bankRecords_eq t _)
  case newer =>
    refine ⟨fun b => newerBank_of_unwritten, fun h0 h1 => ⟨fun b => newerBank_of_successor h0 h1, fun hs => ⟨?_, ?_⟩⟩⟩
    · exact fun b => newerBank_of_greater h0 h1 hs
    · exact newerBank_of_equal h0 h1 hs
  case found => exact ⟨findByNumber_eq_none_iff t m n, findByNumber_eq_some_iff t m n⟩
  case fetch =>
    intro o out banner n s h h0 h1 hl
    have ha : Accepts s (s.accepted o out banner .fetch n) .fetch n := takesOrder_accepts s o out banner .fetch n
    have hheld := accepted_held h n
    generalize hx : s.accepted o out banner .fetch n = x at ha hheld
    have hfetch := handleOrder_fetch_number (ha.lock_opened hl) h0 h1
    obtain ⟨hprogrammer, htimer, hstore, hlock, hawaited, hholding, hcount⟩ := fetchNumber_keeps x n
    obtain ⟨u, hu, hleaves, has⟩ := orderToStation_accepted h noStart (.inl nofun) (by
      rw [hx, hfetch]; exact .of_eq hprogrammer htimer)
    rw [hx, hfetch] at has
    refine ⟨u, by rw [exec_fetch banner n h.powered, hu], hleaves, has.store.trans (hstore.trans ha.store),
      has.lock.trans (hlock.trans (ha.lock_opened hl)), ?_⟩
    rw [has.orders, hawaited, hholding, hcount, ← hheld, ← ha.store, ← ha.arrays]
    refine ⟨ha.awaited, ha.holding, ha.count, fun hbusy => ?busy, fun hfree hnone => ?absent, fun b y hfree hsome => ?stream⟩
    case busy => rw [fetchNumber_of_held hbusy]; exact ⟨rfl, ha.stream⟩
    case absent => rw [fetchNumber_of_none hfree hnone]; exact ⟨rfl, ha.stream⟩
    case stream =>
      have hprogramming : x.programmer.programming b = s.programmer.programming b := by
        rw [ha.programmer, programming_forgetAnswers]
      rw [fetchNumber_of_some hfree hsome, ← hprogramming]
      obtain ⟨-, -, -, -, -, hstream, -⟩ := readStream_keeps x (.record b y.position y.length 0 n)
      refine ⟨hstream, fun hbusy => ?_, fun hquiet => readStream_record_of_quiet _ _ _ _ hquiet⟩
      obtain ⟨houtbox, hread⟩ := readStream_record_of_programming y.position y.length 0 n hbusy
      exact ⟨houtbox.trans ha.outbox, hread⟩

/-! ### MARK (R149) -/

/-- Forgetting the answers changes no operation but the flag of the one whose answer is awaited (R140). -/
theorem forgetAnswers_op (p : Programmer) :
    (∀ w n a, p.op = .word w → w.purpose = .mark n a → p.forgetAnswers.op = .word { w with purpose := .mark n false })
    ∧ (∀ i v k a, p.op = .pulse (.program i v k a) → p.forgetAnswers.op = .pulse (.program i v k false))
    ∧ (∀ k a, p.op = .pulse (.erase k a) → p.forgetAnswers.op = .pulse (.erase k false))
    ∧ ((∀ w n a, p.op = .word w → w.purpose ≠ .mark n a) → (∀ u, p.op ≠ .pulse u) → p.forgetAnswers.op = p.op) := by
  unfold Programmer.forgetAnswers
  refine ⟨fun w n a hw hm => ?_, fun i v k a hp => ?_, fun k a hp => ?_, fun hm hp => ?_⟩
  · simp only [hw, hm]
  · simp only [hp]
  · simp only [hp]
  · cases hop : p.op with
    | idle => rfl
    | bankErase b h => rfl
    | pulse u => exact absurd hop (hp u)
    | word w =>
      cases hw : w.purpose with
      | mark n a => exact absurd hw (hm w n a hop)
      | header | commitWord | commitVoid | voidMark => simp only [hw]

section
variable {x : State}

theorem handleOrder_mark (hl : x.lock = .opened) (n : Word) : x.handleOrder .mark n = x.markOrder n := by
  simp [State.handleOrder, needsOpenLock, hl]

theorem markOrder_cases (x : State) (n : Word) : (n = 0 → x.markOrder n = x.loadReply .refused 1)
    ∧ (n = 0xFFFF → x.markOrder n = x.loadReply .absent 0xFFFF)
    ∧ (n ≠ 0 → n ≠ 0xFFFF → x.markOrder n
        = (x.setProgrammer { x.programmer with marks := x.programmer.marks ++ [⟨n, true⟩] }).setOrders
            { x.orders with awaited := some n }) := by
  unfold State.markOrder
  refine ⟨fun h => if_pos h, fun h => ?_, fun h0 h1 => (if_neg h0).trans (if_neg h1)⟩
  subst h
  exact (if_neg (by decide)).trans (if_pos rfl)

theorem markOrder_keeps (x : State) (n : Word) : PulseOrderKeeps x (x.markOrder n) := by
  unfold State.markOrder
  split
  · exact ⟨⟨rfl, rfl, rfl⟩, rfl, rfl, rfl, rfl⟩
  · split <;> exact ⟨⟨rfl, rfl, rfl⟩, rfl, rfl, rfl, rfl⟩

end

/-- Settles O31: what a MARK hands the programmer, by its number. -/
theorem markIsHandedOver : Obligations.MarkIsHandedOver := by
  refine ⟨fun p => ⟨rfl, rfl, rfl, forgetAnswers_op p⟩, fun o out banner n s h hl => ?_⟩
  obtain ⟨x, u, ha, hu, hleaves, has⟩ := h.orderToStation_handled noStart (.inl nofun) fun x ha => by
    rw [handleOrder_mark (ha.lock_opened hl)]
    exact (markOrder_keeps x n).toHandlingKeeps
  rw [handleOrder_mark (ha.lock_opened hl)] at has
  have hkeeps := markOrder_keeps x n
  obtain ⟨hzero, hones, hnumber⟩ := markOrder_cases x n
  refine ⟨u, by rw [exec_mark banner n h.powered, hu], hleaves, has.store.trans (hkeeps.store.trans ha.store),
    has.lock.trans (hkeeps.lock.trans (ha.lock_opened hl)), ?_⟩
  rw [has.orders, has.programmer, hkeeps.stream, hkeeps.holding, ← ha.programmer]
  refine ⟨ha.stream, ha.holding, fun h0 => ?_, fun h1 => ?_, fun h0 h1 => ?_⟩
  · rw [hzero h0]; exact ⟨rfl, ha.awaited, rfl⟩
  · rw [hones h1]; exact ⟨rfl, ha.awaited, rfl⟩
  · rw [hnumber h0 h1]; exact ⟨ha.outbox, rfl, rfl⟩

/-! ### PROGRAM (R170) -/

section
variable {x : State} {i : Word}

theorem handleOrder_program (hl : x.lock = .opened) (i : Word) : x.handleOrder .program i = x.programOrder i := by
  simp [State.handleOrder, needsOpenLock, hl]

theorem programOrder_of_outside (h : 31 ≤ i.toNat) : x.programOrder i = x.loadReply .refused 1 := if_pos h

theorem programOrder_of_erasing (h : i.toNat < 31) (he : x.bankErasing = true) : x.programOrder i = x.pulseBusy i :=
  (if_neg (by omega)).trans (if_pos he)

theorem programOrder_of_fourth (h : i.toNat < 31) (he : x.bankErasing = false) (hk : x.orders.pulseCount + 1 = 4) :
    x.programOrder i = x.pulseLast (.program i.toNat) (.program i.toNat x.orders.holding 4 true) :=
  (if_neg (by omega)).trans ((if_neg (by simp [he])).trans (if_pos hk))

theorem programOrder_of_earlier (h : i.toNat < 31) (he : x.bankErasing = false) (hk : x.orders.pulseCount + 1 ≠ 4) :
    x.programOrder i = x.pulsePending (x.orders.pulseCount + 1) (.program i.toNat)
      (.program i.toNat x.orders.holding (x.orders.pulseCount + 1) false) :=
  (if_neg (by omega)).trans ((if_neg (by simp [he])).trans (if_neg hk))

theorem programOrder_keeps (x : State) (i : Word) : PulseOrderKeeps x (x.programOrder i) := by
  unfold State.programOrder
  split
  · exact ⟨⟨rfl, rfl, rfl⟩, rfl, rfl, rfl, rfl⟩
  · split
    · exact pulseBusy_keeps x _
    · split
      · exact pulseLast_keeps x _ _
      · exact pulsePending_keeps x _ _ _

end

/-- The number of the program pulse ordered: one past the count of a sequence on the same word, else 1 (R140, R170). -/
theorem Accepts.programPulse_number {s x : State} {i : Word} (h : Accepts s x .program i) : x.orders.pulseCount + 1
    = if s.orders.pulseIndex = some (.program i.toNat) then s.orders.pulseCount + 1 else 1 := by
  rw [h.count]
  by_cases hi : s.orders.pulseIndex = some (.program i.toNat) <;> simp [Orders.keepsCount, hi]

/-- Settles O34: the program pulse order by its outcomes. -/
theorem programHandsOnePulse : Obligations.ProgramHandsOnePulse := by
  intro o out banner i s h hl
  obtain ⟨x, u, ha, hu, hleaves, has⟩ := h.orderToStation_handled noStart (.inl nofun) fun x ha => by
    rw [handleOrder_program (ha.lock_opened hl)]
    exact (programOrder_keeps x i).toHandlingKeeps
  rw [handleOrder_program (ha.lock_opened hl)] at has
  have hkeeps := programOrder_keeps x i
  have herasing : x.bankErasing = s.bankErasing := bankErasing_forgetAnswers ha.programmer
  have hnotOwed : x.setup.owed = .none := by rw [ha.setup]
  refine ⟨u, by rw [exec_program banner i h.powered, hu], hleaves, has.store.trans (hkeeps.store.trans ha.store),
    has.lock.trans (hkeeps.lock.trans (ha.lock_opened hl)), ?_⟩
  simp only [← ha.programPulse_number]
  rw [has.orders, has.setup, has.programmer, hkeeps.holding, hkeeps.stream, ← herasing, ← ha.programmer, ← ha.holding]
  refine ⟨rfl, ha.stream, fun hout => ?outside, fun hin he => ?busy, fun hin he => ⟨fun hk => ?fourth, fun hk => ?earlier⟩⟩
  case outside =>
    rw [programOrder_of_outside hout]
    refine ⟨rfl, hnotOwed, rfl, fun hother => ?_⟩
    have hkept : s.orders.keepsCount .program i = false := by simp [Orders.keepsCount, hother]
    exact ⟨ha.count.trans (by rw [hkept]; rfl), ha.index.trans (by rw [hkept]; rfl)⟩
  case busy =>
    obtain ⟨houtbox, hcount, hindex, hsetup, hpulses⟩ := pulseBusy_spec x i
    rw [programOrder_of_erasing hin he]
    exact ⟨houtbox, hcount, hindex, hsetup ▸ hnotOwed, hpulses⟩
  case fourth =>
    obtain ⟨houtbox, hcount, hindex, howed, hpulses⟩ :=
      pulseLast_spec x (.program i.toNat) (.program i.toNat x.orders.holding 4 true)
    rw [programOrder_of_fourth hin he hk]
    exact ⟨houtbox.trans ha.outbox, hcount, hindex, howed, hpulses⟩
  case earlier =>
    obtain ⟨houtbox, hcount, hindex, hsetup, hpulses⟩ := pulsePending_spec x (x.orders.pulseCount + 1)
      (.program i.toNat) (.program i.toNat x.orders.holding (x.orders.pulseCount + 1) false)
    rw [programOrder_of_earlier hin he hk]
    exact ⟨houtbox, hcount, hindex, hsetup ▸ hnotOwed, hpulses⟩

/-! ### ERASE of a bank (R151, R152) -/

section
variable {x : State} {arg : Word} {b : BankId}

theorem handleOrder_erase (hl : x.lock = .opened) (arg : Word) : x.handleOrder .erase arg = x.eraseOrder arg := by
  simp [State.handleOrder, needsOpenLock, hl]

theorem eraseOrder_bank (x : State) (h : arg = if b = .bank0 then 0 else 1) : x.eraseOrder arg = x.eraseBank b arg := by
  subst h
  cases b <;> rfl

theorem eraseOrder_of_other (h0 : arg ≠ 0) (h1 : arg ≠ 1) (h2 : arg ≠ 2) : x.eraseOrder arg = x.loadReply .refused 1 :=
  (if_neg h0).trans ((if_neg h1).trans (if_neg h2))

theorem eraseBank_of_busy (h : x.commitWriting b = true ∨ x.bankErasing = true) (arg : Word) :
    x.eraseBank b arg = x.loadReply .busy arg := if_pos (by simpa using h)

theorem eraseBank_of_free (hc : x.commitWriting b = false) (he : x.bankErasing = false) (arg : Word) :
    x.eraseBank b arg = (x.setStore (x.store.setPending b)).loadReply .pending arg := if_neg (by simp [hc, he])

end

theorem setPending_spec (t : Store) (b : BankId) : (t.setPending b).bank b = { t.bank b with erasePending := true }
    ∧ (t.setPending b).bank b.other = t.bank b.other
    ∧ t.setPending b = { t with bank0 := (t.setPending b).bank0, bank1 := (t.setPending b).bank1 } := by
  cases b <;> exact ⟨rfl, rfl, rfl⟩

/-- What an ERASE of a bank keeps: all but the store and the outbox. -/
structure EraseOrderKeeps (x t : State) : Prop extends HandlingKeeps x t where
  lock : t.lock = x.lock
  holding : t.orders.holding = x.orders.holding
  stream : t.orders.stream = x.orders.stream
  count : t.orders.pulseCount = x.orders.pulseCount

theorem eraseBank_keeps (x : State) (b : BankId) (arg : Word) : EraseOrderKeeps x (x.eraseBank b arg) := by
  unfold State.eraseBank
  split <;> exact ⟨⟨rfl, rfl, rfl⟩, rfl, rfl, rfl, rfl⟩

theorem eraseOrder_keeps (x : State) {arg : Word} (h2 : arg ≠ 2) : EraseOrderKeeps x (x.eraseOrder arg) := by
  unfold State.eraseOrder
  rw [if_neg h2]
  split
  · exact eraseBank_keeps x _ _
  · split
    · exact eraseBank_keeps x _ _
    · exact ⟨⟨rfl, rfl, rfl⟩, rfl, rfl, rfl, rfl⟩

/-- Settles O35: the erase of a bank is pending, or BUSY beside a commit to it or an erase. -/
theorem eraseGivesThePendingErase : Obligations.EraseGivesThePendingErase := by
  refine ⟨commitWriting_iff, bankErasing_iff, setPending_spec, fun o out banner arg s h hl h2 => ?_⟩
  obtain ⟨x, u, ha, hu, hleaves, has⟩ := h.orderToStation_handled noStart (.inl nofun) fun x ha => by
    rw [handleOrder_erase (ha.lock_opened hl)]
    exact (eraseOrder_keeps x h2).toHandlingKeeps
  rw [handleOrder_erase (ha.lock_opened hl)] at has
  have hkeeps := eraseOrder_keeps x h2
  have hkept : s.orders.keepsCount .erase arg = false := by rw [Orders.keepsCount, beq_eq_false_iff_ne.2 h2]; rfl
  have hcount : x.orders.pulseCount = 0 := ha.count.trans (by rw [hkept]; rfl)
  refine ⟨u, by rw [exec_erase banner arg h.powered, hu], hleaves, has.lock.trans (hkeeps.lock.trans (ha.lock_opened hl)), ?_⟩
  rw [has.orders, has.store, hkeeps.holding, hkeeps.stream, hkeeps.count, ← ha.store,
    ← bankErasing_forgetAnswers ha.programmer]
  refine ⟨ha.holding, ha.stream, hcount, fun b hb => ?bank, fun h0 h1 => ?other⟩
  case bank =>
    rw [eraseOrder_bank x hb, ← commitWriting_forgetAnswers ha.programmer]
    refine ⟨fun hbusy => ?_, fun hc he => ?_⟩
    · rw [eraseBank_of_busy hbusy]; exact ⟨rfl, rfl⟩
    · rw [eraseBank_of_free hc he]; exact ⟨rfl, rfl⟩
  case other => rw [eraseOrder_of_other h0 h1 h2]; exact ⟨rfl, rfl⟩

/-! ### The lock refuses (R161, R164) -/

theorem needsOpenLock_iff (code : OrderCode) (arg : Word) : needsOpenLock code arg = true
    ↔ code ≠ .unlock ∧ code ≠ .relock ∧ ¬(code = .fetch ∧ arg = 0xFFFF) := by
  cases code <;> simp [needsOpenLock]

theorem handleOrder_refused {x : State} {code : OrderCode} {arg : Word} (hn : needsOpenLock code arg = true)
    (hl : x.lock ≠ .opened) : x.handleOrder code arg = x.refuseLocked := if_pos (by simp [hn, hl])

/-- A lock that is not OPEN falls back to LOCKED at any order but UNLOCK (R161). -/
theorem orderTaken_locks {l : Lock} {code : OrderCode} (hl : l ≠ .opened) (hc : code ≠ .unlock) :
    l.orderTaken code = .locked := by
  cases l with
  | locked => rfl
  | key1 | key2 => exact if_neg hc
  | opened => exact absurd rfl hl

/-- Settles O38: every such order falls to `refuseLocked`. -/
theorem lockedStationRefusesTheOrder : Obligations.LockedStationRefusesTheOrder := by
  refine ⟨needsOpenLock_iff, fun o out banner code arg i s h hn hl => ?_⟩
  obtain ⟨hc, -, -⟩ := (needsOpenLock_iff code arg).1 hn
  have hlocked {x : State} (ha : Accepts s x code arg) : x.lock = .locked := ha.lock.trans (orderTaken_locks hl hc)
  have hrefused {x : State} (ha : Accepts s x code arg) : x.handleOrder code arg = x.refuseLocked :=
    handleOrder_refused hn (by rw [hlocked ha]; exact nofun)
  obtain ⟨j, hexec⟩ := exec_orderCommand h.powered banner code arg i
  obtain ⟨x, u, ha, hu, hleaves, has⟩ := h.orderToStation_handled j (.inr hl) fun x ha => by
    rw [hrefused ha]
    exact .of_eq rfl rfl
  rw [hrefused ha] at has
  refine ⟨u, by rw [hexec, hu], hleaves, has.store.trans ha.store, has.lock.trans (hlocked (x := x) ha), ?_⟩
  rw [has.orders, has.programmer, ← ha.programmer]
  exact ⟨rfl, ha.stream, ha.awaited, rfl, rfl, ha.holding, rfl, rfl⟩

/-! ### FETCH FFFF (R146, R165) -/

theorem handleOrder_fetchStatus (x : State) : x.handleOrder .fetch 0xFFFF = x.loadStreamWord (.status 0) (x.statusWord 0) :=
  rfl

theorem afterRound_cause {m : Membership} (h : m.state = .member) (period : Nat) (o : Offers) (r : Round)
    (out : OfferOutcome) : (m.afterRound period o r out).cause = m.cause := by
  by_cases hr : r.kind = .roll
  · rw [afterRound_of_member_roll h hr]; rfl
  · rw [afterRound_of_member h hr]

/-- Word 0 of the status, as a member reports it. -/
theorem accepted_statusWord_zero {s : State} {o : Offers} {out : OfferOutcome} {banner : Banner} {code : OrderCode}
    {arg : Word} (h : s.TakesOrder o out banner code arg) : (s.accepted o out banner code arg).statusWord 0
      = 3#3 ++ causeCode s.membership.cause ++ setupFaultCode s.setup.fault ++ lockCode (s.lock.orderTaken code) ++ 0#6 := by
  obtain ⟨-, hm, -⟩ := h
  have ha : Accepts s (s.accepted o out banner code arg) code arg := takesOrder_accepts s o out banner code arg
  have k : OrderKeeps _ (s.accepted o out banner code arg) :=
    acceptOrder_orderKeeps (s.beforeOrders o (s.orderRound banner code arg) out) code arg
  have hstate : (s.accepted o out banner code arg).membership.state = .member := by
    rw [k.membership, (s.beforeOrders_engineSide o _ out).1, beforeEngine_member hm]
  have hcause : (s.accepted o out banner code arg).membership.cause = s.membership.cause := by
    rw [k.membership, s.beforeOrders_membership, afterRound_cause hm]
  have hfault : (s.accepted o out banner code arg).setup.fault = s.setup.fault := by rw [ha.setup]
  rw [State.statusWord, hstate, hcause, hfault, ha.lock]
  rfl

theorem workWaiting_iff (s : State) : s.workWaiting = true ↔ s.programmer.commit ≠ none ∨ s.programmer.pulses ≠ []
    ∨ s.programmer.marks ≠ [] ∨ s.store.voidQueue ≠ [] ∨ s.store.bank0.erasePending = true
    ∨ s.store.bank1.erasePending = true ∨ ∃ i n w, s.staging.slot i = .ready n w := by
  have hslot (v : Slot) : v.isReady = true ↔ ∃ n w, v = .ready n w := by cases v <;> simp [Slot.isReady]
  have hready : s.staging.hasReady = true ↔ ∃ i n w, s.staging.slot i = .ready n w := by
    rw [Staging.hasReady, Bool.or_eq_true, hslot, hslot]
    constructor
    · rintro (h | h)
      · exact ⟨.slot0, h⟩
      · exact ⟨.slot1, h⟩
    · rintro ⟨i, h⟩
      cases i with
      | slot0 => exact .inl h
      | slot1 => exact .inr h
  simp [State.workWaiting, ← hready, Option.isSome_iff_ne_none, or_assoc]

/-- The roster words carry member 0 in their highest bit (R103). -/
theorem rosterWords_spec (roster : Vector RosterEntry 31) :
    (∀ k : Fin 31, k.val < 16 →
      (rosterWord0 (roster.toList.map fun r => r.present)).getMsbD k.val = roster[k].present)
    ∧ (∀ k : Fin 31, 16 ≤ k.val →
      (rosterWord1 (roster.toList.map fun r => r.present)).getMsbD (k.val - 16) = roster[k].present)
    ∧ (rosterWord1 (roster.toList.map fun r => r.present)).getMsbD 15 = false := by
  have hbit (bs : List Bool) {j : Nat} (hj : j < 16) : (packBits bs).getMsbD j = bs.getD j false := by
    rw [BitVec.getMsbD, decide_eq_true hj, Bool.true_and, show 16 - 1 - j = 15 - j by omega, packBits_getLsbD bs hj]
  refine ⟨fun k hk => (hbit _ hk).trans ?_, fun k hk => (hbit _ (by omega)).trans ?_, (hbit _ (by omega)).trans ?_⟩
  · simp [hk]
  · simp [show k.val - 16 < 15 by omega, show 16 + (k.val - 16) = k.val by omega]
  · simp

theorem freeWords_cases (t : Store) : (t.openBank = none → freeWords t = 0)
    ∧ (∀ b, t.openBank = some b → (t.bank b).state = .erasing → freeWords t = 0)
    ∧ (∀ b, t.openBank = some b → (t.bank b).state ≠ .erasing → freeWords t = 16384 - t.appendPoint) := by
  unfold freeWords
  refine ⟨fun h => by rw [h], fun b h he => ?_, fun b h he => ?_⟩
  · rw [h]; exact if_pos he
  · rw [h]; exact if_neg he

/-- Settles O30: the first word of the stream in the state the order is accepted in, the others by definition. -/
theorem fetchStatusStreamsTheStatus : Obligations.FetchStatusStreamsTheStatus := by
  refine ⟨fun o out banner s h => ?fetch, fun s => ?words, by decide, by decide, by decide, by decide,
    fun c n w => rfl, by decide, by decide, fun w b h i v k o => rfl⟩
  case fetch =>
    obtain ⟨u, hu, hleaves, has⟩ := orderToStation_accepted h noStart (.inl nofun) (.of_eq rfl rfl)
    have ha : Accepts s (s.accepted o out banner .fetch 0xFFFF) .fetch 0xFFFF := takesOrder_accepts s o out banner _ _
    rw [handleOrder_fetchStatus, accepted_statusWord_zero h] at has
    refine ⟨u, by rw [exec_fetchStatus banner h.powered, hu], hleaves, has.store.trans ha.store, ?_⟩
    rw [has.orders, has.lock]
    refine ⟨rfl, ha.awaited, ha.holding, ha.lock.trans ?_, ?_⟩
    · cases s.lock <;> rfl
    · cases s.lock <;> rfl
  case words =>
    obtain ⟨hlow, hhigh, hlast⟩ := rosterWords_spec s.membership.roster
    obtain ⟨hnone, herasing, hfree⟩ := freeWords_cases s.store
    refine ⟨rfl, rfl, rfl, hlow, hhigh, hlast, rfl, fun h => ?_, fun b h he => ?_, fun b h he => ?_, rfl, rfl, rfl, rfl,
      workWaiting_iff s⟩
    · rw [State.statusWord, hnone h]; rfl
    · rw [State.statusWord, herasing b h he]; rfl
    · rw [State.statusWord, hfree b h he]

end Sys2Proof.Machine
end

section
/-!
The Order Unit at the end of a round that brings the station no order (O26, O39, O40): a reply delivered and its stream, an
order not taken, and the open timer.
-/

namespace Sys2Proof.Machine

/-! ### The open timer (R156, R163) -/

section
variable {x : State}

theorem openTimerRoundEnd_of_due {t : Nat} (ht : x.settings.openTimeout = some t) (hm : x.membership.state = .member)
    (hl : x.lock = .opened) (hd : t ≤ x.orders.openTimer + 1) :
    x.openTimerRoundEnd = (x.setOrders { x.orders with openTimer := 0 }).setLock .locked := by
  simp [State.openTimerRoundEnd, ht, hm, hl, hd]

theorem openTimerRoundEnd_of_counting {t : Nat} (ht : x.settings.openTimeout = some t) (hm : x.membership.state = .member)
    (hl : x.lock = .opened) (hd : x.orders.openTimer + 1 < t) :
    x.openTimerRoundEnd = x.setOrders { x.orders with openTimer := x.orders.openTimer + 1 } := by
  simp [State.openTimerRoundEnd, ht, hm, hl, Nat.not_le.2 hd]

theorem openTimerRoundEnd_of_stopped (h : x.lock ≠ .opened ∨ x.settings.openTimeout = none) :
    x.openTimerRoundEnd = x := by
  unfold State.openTimerRoundEnd
  split
  · rfl
  next t ht => exact if_neg fun hml => (h.resolve_right (by simp [ht])) hml.2

/-- The timer's round end changes the timer, and locks an OPEN lock or leaves the lock. -/
theorem openTimerRoundEnd_orders (x : State) :
    x.openTimerRoundEnd.orders = { x.orders with openTimer := x.openTimerRoundEnd.orders.openTimer } := by
  unfold State.openTimerRoundEnd
  split
  · rfl
  · split
    · split <;> rfl
    · rfl

end

/-! ### What the round leaves of the Order Unit -/

theorem replyWon_iff (o : Offers) (out : OfferOutcome) :
    replyWon o out = true ↔ (∃ r, o.kind = .reply r) ∧ out = .won := by
  unfold replyWon
  cases o.kind <;> cases out <;> simp

/-- A reply is won in a REPLY round alone (R11, R143). -/
theorem replyWon_of_other_kind {number : BitVec 5} {o : Offers} {r : Round} {out : OfferOutcome}
    (h : settleOffer number o r = some out) (hk : r.kind ≠ .reply) : replyWon o out = false := by
  rw [Bool.eq_false_iff]
  intro hwon
  obtain ⟨⟨rep, hoffer⟩, hout⟩ := (replyWon_iff o out).1 hwon
  have hkind := offered_of_won h hout
  rw [hoffer] at hkind
  exact hk (Option.some.inj hkind).symm

/-- The state in which the programmer takes its next operation, after a round that brings no order: the Order Unit as its
round end left it, the rest as the reactions before it left it. -/
structure NoOrderLeft (b y u : State) : Prop where
  orders : u.orders = y.orders
  lock : u.lock = y.lock
  engine : u.engine = b.engine
  membership : u.membership = b.membership
  monitors : u.monitors = b.monitors
  staging : u.staging = b.staging
  store : u.store = b.store
  arrays : u.arrays = b.arrays
  programmer : u.programmer = b.programmer
  setup : u.setup = b.setup

section
variable {s : State} {o : Offers} {r : Round} {out : OfferOutcome}

theorem closeRound_no_order (ht : s.takenOrder r = none) (ha : s.StaysAwake r.banner.stay) :
    ∃ u : State, s.closeRound o r out = u.take
      ∧ NoOrderLeft (s.beforeOrders o r out) ((s.beforeOrders o r out).ordersRoundEnd none (replyWon o out)) u := by
  obtain ⟨n, hn⟩ := State.closeRound_awake (o := o) (out := out) ht ha
  exact ⟨_, hn, rfl, rfl, rfl, rfl, rfl, rfl, rfl, rfl, rfl, rfl⟩

theorem beforeOrders_member (hm : s.membership.state = .member) : (s.beforeOrders o r out).membership.state = .member :=
  (congrArg Membership.state (s.beforeOrders_engineSide o r out).1).trans (beforeEngine_member hm)

end

theorem ordersRoundEnd_not_won (b : State) : b.ordersRoundEnd none false = b.openTimerRoundEnd := rfl

theorem ordersRoundEnd_won (b : State) : b.ordersRoundEnd none true = b.openTimerRoundEnd.replyDelivered := rfl

/-! ### An order not taken (R139) -/

theorem exec_order_unpowered {s : State} (hp : s.powered = false) (banner : Banner) (code : OrderCode) (arg : Word)
    (i : StartInputs) : exec (orderCommand banner code arg i) s = .next s := by
  cases code with
  | fetch =>
    unfold orderCommand
    by_cases h0 : arg = 0
    · rw [if_pos h0]; exact act_unpowered hp _
    · by_cases h1 : arg = 0xFFFF
      · rw [if_neg h0, if_pos h1]; exact act_unpowered hp _
      · rw [if_neg h0, if_neg h1]; exact act_unpowered hp _
  | erase =>
    unfold orderCommand
    by_cases h2 : arg = 2
    · rw [if_pos h2]; exact act_unpowered hp _
    · rw [if_neg h2]; exact act_unpowered hp _
  | mark | unlock | relock | load | program | restart => exact act_unpowered hp _

/-- Only a RESTART reads the start inputs at the end of an order's round. -/
theorem roundEnd_inputs {s : State} {r : Round} (hr : s.restarts r = false) (i j : StartInputs) :
    s.roundEnd r i = s.roundEnd r j := by
  unfold State.roundEnd
  simp [hr]

theorem restarts_orderRound_iff (s : State) (banner : Banner) (code : OrderCode) (arg : Word) :
    s.restarts (s.orderRound banner code arg) = true → code = .restart := by
  rw [restarts_iff, State.takenOrder_orderBody]
  rintro ⟨-, arg', h⟩
  split at h
  · exact congrArg Prod.fst (Option.some.inj h)
  · exact absurd h nofun

/-- An ORDER round to this station is the row of its order. -/
theorem exec_orderRound_eq (s : State) (banner : Banner) (code : OrderCode) (arg : Word) (i : StartInputs) :
    exec (.orderRound banner (orderBody s.membership.number code arg) i) s = exec (orderCommand banner code arg i) s := by
  cases hp : s.powered with
  | false => rw [exec_order_unpowered hp]; exact act_unpowered hp _
  | true =>
    rw [exec_orderRound banner _ i hp]
    by_cases hc : code = .restart
    · subst hc; exact (exec_restart banner arg i hp).symm
    · have hr : s.restarts (s.orderRound banner code arg) = false :=
        Bool.eq_false_iff.2 fun h => hc (restarts_orderRound_iff s banner code arg h)
      obtain ⟨j, hj⟩ := exec_orderCommand hp banner code arg i
      rw [hj]
      exact congrArg (fun t : State => Host.Outcome.next t.refreshFault) (roundEnd_inputs hr i j)

theorem orderBits_eq (code : OrderCode) : orderBits code
    = BitVec.ofNat 3 ([OrderCode.fetch, .mark, .unlock, .relock, .load, .program, .erase, .restart].idxOf code) := by
  cases code <;> rfl

/-- Settles O39: no order is taken, and no reply is won in an ORDER round; a round with an order is its row. -/
theorem foreignOrderIsNotTaken : Obligations.ForeignOrderIsNotTaken := by
  refine ⟨fun o banner body i out s h ha hforeign => ?foreign,
    fun banner code arg i s => ⟨exec_orderRound_eq s banner code arg i, ?_⟩⟩
  case foreign =>
    have ht : s.takenOrder ⟨.order, banner, body⟩ = none := by
      rw [takenOrder_eq_none_iff]
      rintro ⟨-, hcheck, htarget, hmember⟩
      rcases hforeign with hc | hc | hc
      · rw [hcheck] at hc; exact Bool.noConfusion hc
      · exact hc htarget
      · exact hc hmember
    have hr : s.restarts ⟨.order, banner, body⟩ = false := by
      rw [Bool.eq_false_iff, ne_eq, restarts_iff, ht]
      rintro ⟨-, arg, h⟩
      exact absurd h nofun
    obtain ⟨u, hu, hleft⟩ := closeRound_no_order (o := o) (out := out) ht ha
    obtain ⟨hp, -, -, -, hsettle⟩ := id h
    have hwon := replyWon_of_other_kind hsettle (by simp)
    rw [hwon, ordersRoundEnd_not_won] at hleft
    refine ⟨u, ?_, ?_⟩
    · rw [exec_orderRound banner body i hp, State.roundEnd_of_endsRound h, if_neg (by simp [hr]), hu]
    · rw [hleft.orders, openTimerRoundEnd_orders, hleft.lock, hleft.store, hleft.arrays, hleft.programmer, hleft.setup]
      simp only [State.beforeOrders_orders, State.beforeOrders_store, State.beforeOrders_arrays,
        State.beforeOrders_programmer, State.beforeOrders_setup, true_and, and_true]
      intro hl
      rw [openTimerRoundEnd_of_stopped (.inl (by rwa [State.beforeOrders_lock])), State.beforeOrders_lock]
  · rw [← orderBits_eq]; rfl

theorem openTimerComesDue_iff {s : State} {o : Offers} {r : Round} {out : OfferOutcome} (h : s.EndsRound o r out) :
    s.openTimerComesDue r = true ↔ s.membership.state = .member ∧ s.lock = .opened ∧ s.takenOrder r = none
      ∧ s.settings.openTimeout = some (s.orders.openTimer + 1) := by
  obtain ⟨-, ha, hon, hround, -⟩ := h
  simp [State.openTimerComesDue, State.inRound, ha, hon, hround, and_assoc]

theorem restarts_of_no_order {s : State} {r : Round} (ht : s.takenOrder r = none) : s.restarts r = false := by
  rw [Bool.eq_false_iff, ne_eq, restarts_iff, ht]
  rintro ⟨-, arg, h⟩
  exact absurd h nofun

/-- A reply delivered leaves the timer and the lock. -/
theorem ordersRoundEnd_timer (b : State) (won : Bool) :
    (b.ordersRoundEnd none won).orders.openTimer = b.openTimerRoundEnd.orders.openTimer
    ∧ (b.ordersRoundEnd none won).lock = b.openTimerRoundEnd.lock := by
  cases won with
  | false => exact ⟨rfl, rfl⟩
  | true =>
    rw [ordersRoundEnd_won, replyDelivered_lock]
    refine ⟨?_, rfl⟩
    unfold State.replyDelivered
    split
    · rfl
    · split
      · rfl
      · split
        · rfl
        · exact (readStream_keeps _ _).2.1

/-- Settles O40: the timer's round end by its cases, beside a reply or not. -/
theorem openTimerLocks : Obligations.OpenTimerLocks := by
  refine ⟨fun o r out s h => openTimerComesDue_iff h, fun o r out i s h hd ha hwon => ?expires,
    fun o r out s h ht hm ha => ?counts⟩
  case expires =>
    obtain ⟨hm, hl, ht, hlimit⟩ := (openTimerComesDue_iff h).1 hd
    obtain ⟨u, hu, hleft⟩ := closeRound_no_order (o := o) (out := out) ht ha
    have hexec : exec (.openTimerExpiry r i) s = .next (s.closeRound o r out).refreshFault := by
      rw [exec_openTimerExpiry r i h.1, State.roundEndIf, if_pos hd, State.roundEnd_of_endsRound h,
        if_neg (by simp [restarts_of_no_order ht])]
    rw [hwon, ordersRoundEnd_not_won, openTimerRoundEnd_of_due (t := s.orders.openTimer + 1) (by simpa using hlimit)
      (beforeOrders_member hm) (by simpa using hl) (by simp)] at hleft
    refine ⟨u, by rw [hexec, hu], hleft.lock, ?_, hleft.arrays.trans (s.beforeOrders_arrays o r out),
      hleft.programmer.trans (s.beforeOrders_programmer o r out)⟩
    rw [hleft.orders, ← s.beforeOrders_orders o r out]
    rfl
  case counts =>
    obtain ⟨u, hu, hleft⟩ := closeRound_no_order (o := o) (out := out) ht ha
    obtain ⟨htimer, hlock⟩ := ordersRoundEnd_timer (s.beforeOrders o r out) (replyWon o out)
    refine ⟨u, exec_closeRound_take h (restarts_of_no_order ht) hu, hleft.arrays.trans (s.beforeOrders_arrays o r out),
      hleft.programmer.trans (s.beforeOrders_programmer o r out), ?_⟩
    rw [hleft.orders, hleft.lock, htimer, hlock]
    refine ⟨fun limit hl hlimit hlt => ?_, fun hstop => ?_⟩
    · rw [openTimerRoundEnd_of_counting (t := limit) (by simpa using hlimit) (beforeOrders_member hm) (by simpa using hl)
        (by simpa using hlt)]
      exact ⟨(s.beforeOrders_lock o r out).trans hl, congrArg (fun q : Orders => q.openTimer + 1) (s.beforeOrders_orders o r out)⟩
    · rw [openTimerRoundEnd_of_stopped (by simpa using hstop)]
      exact ⟨s.beforeOrders_lock o r out, congrArg Orders.openTimer (s.beforeOrders_orders o r out)⟩

/-! ### A reply delivered (R143, R147) -/

theorem Stream.atLast_status (k : Nat) : (Stream.status k).atLast = true ↔ k = 11 := by
  rw [Stream.atLast, beq_iff_eq]
  show k + 1 = 12 ↔ k = 11
  omega

section
variable {x : State}

theorem replyDelivered_of_replaced (h : x.orders.replaced = true) : x.replyDelivered = x := if_pos h

theorem replyDelivered_of_no_stream (h : x.orders.replaced = false) (hs : x.orders.stream = none) :
    x.replyDelivered = x.setOrders { x.orders with outbox := none } := by
  simp [State.replyDelivered, h, hs]

theorem replyDelivered_of_last {st : Machine.Stream} (h : x.orders.replaced = false) (hs : x.orders.stream = some st)
    (hl : st.atLast = true) :
    x.replyDelivered = x.setOrders { x.orders with outbox := none, stream := none, read := .none } := by
  simp [State.replyDelivered, h, hs, hl]

theorem replyDelivered_of_more {st : Machine.Stream} (h : x.orders.replaced = false) (hs : x.orders.stream = some st)
    (hl : st.atLast = false) :
    x.replyDelivered = (x.setOrders { x.orders with outbox := none }).readStream st.advance := by
  simp [State.replyDelivered, h, hs, hl]

end

/-- The status words past word 0 read none of the lock, the Order Unit or the rest, and word 11 alone the round count. -/
theorem statusWord_congr {s t : State} (he : t.engine = s.engine) (hmon : t.monitors = s.monitors)
    (hst : t.staging = s.staging) (hp : t.programmer = s.programmer) (hm : t.membership = s.membership)
    (hs : t.store = s.store) {k : Nat} (h1 : 1 ≤ k) (h10 : k < 11) : t.statusWord k = s.statusWord k := by
  have hwork : t.workWaiting = s.workWaiting := by rw [State.workWaiting, State.workWaiting, hp, hs, hst]
  interval_cases k <;> simp only [State.statusWord, he, hmon, hst, hp, hm, hs, hwork]

section
variable {x : State}

/-- A record's stream goes on to its next word, which waits for a word program in the bank (R130, R147). -/
theorem replyDelivered_record {b : BankId} {p n k : Nat} {q : Word} (h : x.orders.replaced = false)
    (hs : x.orders.stream = some (.record b p n k q)) (hk : k + 1 ≠ n) :
    x.replyDelivered.orders.stream = some (.record b p n (k + 1) q)
    ∧ (x.programmer.programming b = true → x.replyDelivered.orders.outbox = none ∧ x.replyDelivered.orders.read = .waiting)
    ∧ (x.programmer.programming b = false → x.replyDelivered.orders.outbox
        = some ⟨if k + 2 = n then .last else .data, nvRead (x.arrays.bank b) (p + (k + 1))⟩) := by
  have hmore : (Stream.record b p n k q).atLast = false :=
    Bool.eq_false_iff.2 fun hl => hk ((Stream.atLast_record b p n k q).1 hl).symm
  rw [replyDelivered_of_more h hs hmore]
  obtain ⟨-, -, -, -, -, hstream, -⟩ := readStream_keeps (x.setOrders { x.orders with outbox := none })
    (.record b p n (k + 1) q)
  refine ⟨hstream, fun hp => ?_, fun hp => ?_⟩
  · exact readStream_record_of_programming (s := x.setOrders { x.orders with outbox := none }) p n (k + 1) q hp
  · have hquiet := readStream_record_of_quiet (s := x.setOrders { x.orders with outbox := none }) p n (k + 1) q hp
    exact hquiet.trans (congrArg (fun st => some (Reply.mk st _)) (if_congr eq_comm rfl rfl))

/-- The status stream goes on to its next word. -/
theorem replyDelivered_status {k : Nat} (h : x.orders.replaced = false) (hs : x.orders.stream = some (.status k))
    (hk : k + 1 ≠ 12) : x.replyDelivered.orders.stream = some (.status (k + 1))
    ∧ (k + 1 ≠ 11 → x.replyDelivered.orders.outbox = some ⟨.data, x.statusWord (k + 1)⟩)
    ∧ (k + 1 = 11 → x.replyDelivered.orders.outbox = some ⟨.last, x.line.count.extractLsb' 8 16⟩) := by
  have hmore : (Stream.status k).atLast = false :=
    Bool.eq_false_iff.2 fun hl => hk (congrArg (· + 1) ((Stream.atLast_status k).1 hl))
  rw [replyDelivered_of_more h hs hmore]
  refine ⟨rfl, fun hne => ?_, fun he => ?_⟩
  · have hdata : (Stream.status (k + 1)).atLast = false := Bool.eq_false_iff.2 fun hl => hne ((Stream.atLast_status _).1 hl)
    show some (Reply.mk (if (Stream.status (k + 1)).atLast then .last else .data) _) = _
    rw [hdata]
    rfl
  · obtain rfl : k = 10 := by omega
    rfl

end

/-- Settles O26: the Order Unit's reaction to a reply of its own won, by the stream under way. -/
theorem replyRoundSettlesTheOutbox : Obligations.ReplyRoundSettlesTheOutbox := by
  refine ⟨replyWon_iff, fun b p n k q => ?_, Stream.atLast_status, fun o banner body out s h hm ha => ?_⟩
  · rw [Stream.atLast_record, eq_comm]
  have ht : s.takenOrder ⟨.reply, banner, body⟩ = none := takenOrder_of_kind (by simp)
  obtain ⟨u, hu, hleft⟩ := closeRound_no_order (o := o) (out := out) ht ha
  have hb := s.beforeOrders_orders o ⟨.reply, banner, body⟩ out
  have hprogrammer := s.beforeOrders_programmer o ⟨.reply, banner, body⟩ out
  have harrays := s.beforeOrders_arrays o ⟨.reply, banner, body⟩ out
  have hcount := s.beforeOrders_count o ⟨.reply, banner, body⟩ out
  refine ⟨u, exec_closeRound_take h (restarts_of_no_order ht) hu, hleft.arrays.trans harrays,
    hleft.store.trans (s.beforeOrders_store o _ out), hleft.programmer.trans hprogrammer, ?_⟩
  generalize s.beforeOrders o ⟨.reply, banner, body⟩ out = b at hleft hb hprogrammer harrays hcount
  have hx : OrderKeeps b b.openTimerRoundEnd := (openTimerRoundEnd_ordersOnly b).orderKeeps
  have hxprogrammer : b.openTimerRoundEnd.programmer = b.programmer :=
    (congrArg State.programmer (openTimerRoundEnd_ordersOnly b).eq).trans rfl
  have hxstore : b.openTimerRoundEnd.store = b.store :=
    (congrArg State.store (openTimerRoundEnd_ordersOnly b).eq).trans rfl
  have hxo := openTimerRoundEnd_orders b
  rw [hb] at hxo
  cases hwon : replyWon o out with
  | false =>
    rw [hwon, ordersRoundEnd_not_won] at hleft
    refine ⟨fun _ => ?_, nofun⟩
    rw [hleft.orders, hxo]
    exact ⟨rfl, rfl, rfl⟩
  | true =>
    rw [hwon, ordersRoundEnd_won] at hleft
    generalize b.openTimerRoundEnd = x at hleft hx hxprogrammer hxstore hxo
    have hreplaced : x.orders.replaced = s.orders.replaced := by rw [hxo]
    have hstream : x.orders.stream = s.orders.stream := by rw [hxo]
    rw [hleft.orders, ← hreplaced, ← hstream, ← harrays, ← hprogrammer, ← hxprogrammer, ← hx.arrays, ← hcount, ← hx.line]
    refine ⟨fun h => ?replaced, fun _ hr => ⟨fun hs => ?silent, fun st hs hl => ?last,
      fun b p n k q hs hk => replyDelivered_record hr hs hk, fun k hs hk => ?status⟩⟩
    case replaced =>
      rw [replyDelivered_of_replaced (h.resolve_left (by simp)), hxo]
      exact ⟨rfl, rfl, rfl⟩
    case silent => rw [replyDelivered_of_no_stream hr hs]; exact ⟨rfl, hs⟩
    case last => rw [replyDelivered_of_last hr hs hl]; exact ⟨rfl, rfl⟩
    case status =>
      obtain ⟨hnext, hdata, hlast⟩ := replyDelivered_status hr hs hk
      refine ⟨hnext, fun hlt => ?_, hlast⟩
      rw [hdata (by omega), statusWord_congr (t := u) (s := x) (hleft.engine.trans hx.engine.symm)
        (hleft.monitors.trans hx.monitors.symm) (hleft.staging.trans hx.staging.symm)
        (hleft.programmer.trans hxprogrammer.symm) (hleft.membership.trans hx.membership.symm)
        (hleft.store.trans hxstore.symm) (by omega) hlt]

end Sys2Proof.Machine
end

section
/-!
The end of a word program (O42, O43, O44, O45): the attempt retried or ended, the commit that fails, the mark and its report,
the header that opens a bank or condemns it.
-/

namespace Sys2Proof.Machine

/-! ### An attempt retried, ended, or outside its bank (R113, R114) -/

section
variable {s : State} {w : WordOp} {missed : Word}

/-- The word of the attempt in the array, before what asked for it goes on. -/
def State.attempted (s : State) (w : WordOp) (missed : Word) : State :=
  s.setArrays (s.arrays.setBank w.bank (nvProgram Config.bankWords (s.arrays.bank w.bank) w.address w.value missed))

/-- A verify that fails before the third attempt is followed by another (R114). -/
theorem attemptEnded_of_retry (hwf : s.arrays.wf = true) (ha : w.address < Config.bankWords) (hlt : w.attempt < 3)
    (hfail : programmedWord (nvRead (s.arrays.bank w.bank) w.address) w.value missed ≠ w.meant) :
    s.attemptEnded w missed = (s.attempted w missed).beginOp (.word { w with attempt := w.attempt + 1 }) := by
  have hread : nvRead (nvProgram Config.bankWords (s.arrays.bank w.bank) w.address w.value missed) w.address
      = programmedWord (nvRead (s.arrays.bank w.bank) w.address) w.value missed := by
    rw [nvRead_nvProgram (nvWf_rising (Arrays.wf_bank hwf w.bank)) ha, if_pos rfl]
  have hmax : ¬Config.maxAttempts ≤ w.attempt := Nat.not_le.2 hlt
  simp only [State.attemptEnded, hread]
  exact if_neg (by simpa [hfail] using hmax)

/-- The command ends the word program: the verify passes, or it was the third attempt. -/
theorem exec_wordProgramDone_ends (hp : s.powered = true) (hwf : s.arrays.wf = true) (hop : s.programmer.op = .word w)
    (ha : w.address < Config.bankWords)
    (hends : programmedWord (nvRead (s.arrays.bank w.bank) w.address) w.value missed = w.meant ∨ 3 ≤ w.attempt) :
    exec (.wordProgramDone missed) s = .next ((s.wordProgrammed w missed).wordEnded w
      (programmedWord (nvRead (s.arrays.bank w.bank) w.address) w.value missed == w.meant)).refreshFault := by
  rw [exec_wordProgramDone_of_word hp hop ha, attemptEnded_of_ends hwf ha hends]

theorem exec_wordProgramDone_passes (hp : s.powered = true) (hwf : s.arrays.wf = true) (hop : s.programmer.op = .word w)
    (ha : w.address < Config.bankWords)
    (hpass : programmedWord (nvRead (s.arrays.bank w.bank) w.address) w.value missed = w.meant) :
    exec (.wordProgramDone missed) s = .next ((s.wordProgrammed w missed).wordEnded w true).refreshFault := by
  rw [exec_wordProgramDone_ends hp hwf hop ha (.inl hpass), beq_iff_eq.2 hpass]

theorem exec_wordProgramDone_fails (hp : s.powered = true) (hwf : s.arrays.wf = true) (hop : s.programmer.op = .word w)
    (ha : w.address < Config.bankWords) (h3 : 3 ≤ w.attempt)
    (hfail : programmedWord (nvRead (s.arrays.bank w.bank) w.address) w.value missed ≠ w.meant) :
    exec (.wordProgramDone missed) s = .next ((s.wordProgrammed w missed).wordEnded w false).refreshFault := by
  rw [exec_wordProgramDone_ends hp hwf hop ha (.inr h3), beq_eq_false_iff_ne.2 hfail]

end

/-- What the end of a program in a bank changes of the Order Unit: the read that waits for that bank (R130). -/
theorem programEnded_spec (q : Orders) (b : BankId) (m : Nv) :
    (∀ p n k r, q.stream = some (.record b p n k r) → q.read = .waiting →
      q.programEnded b m = { q with read := .ready (nvRead m (p + k)) })
    ∧ (∀ p n k r, q.stream = some (.record b.other p n k r) → q.programEnded b m = q)
    ∧ (q.read ≠ .waiting ∨ q.stream = none → q.programEnded b m = q)
    ∧ q.programEnded b m = { q with read := (q.programEnded b m).read } := by
  have hother : b.other ≠ b := by cases b <;> simp [BankId.other]
  unfold Orders.programEnded
  refine ⟨fun p n k r hs hr => ?_, fun p n k r hs => ?_, fun h => ?_, ?_⟩
  · simp [hs, hr]
  · cases q.read <;> simp [hs, hother]
  · split
    next hr hs => rcases h with h | h
                  · exact absurd hr h
                  · rw [h] at hs; exact absurd hs nofun
    next => rfl
  · split
    · split <;> rfl
    · rfl

/-- Settles O45: the attempt by whether it ends the program, and the address outside the bank. -/
theorem attemptIsRetriedOrStops : Obligations.AttemptIsRetriedOrStops := by
  refine ⟨fun w missed s hp hwf hop ha hlt hfail => ?retried, fun w missed s hp hwf hop ha hends => ?ends,
    fun w missed s hp hop ha => ?outside⟩
  case retried =>
    refine ⟨_, exec_wordProgramDone_of_word hp hop ha, ?_⟩
    rw [attemptEnded_of_retry hwf ha hlt hfail]
    exact ⟨rfl, wordProgrammed_reads_word hwf ha, fun b a hne => wordProgrammed_reads_other hwf ha hne,
      Arrays.setBank_setup _ _ _, rfl, rfl, rfl⟩
  case ends =>
    obtain ⟨hready, hother, hkept, -⟩ := programEnded_spec s.orders w.bank
      (nvProgram Config.bankWords (s.arrays.bank w.bank) w.address w.value missed)
    refine ⟨s.wordProgrammed w missed, _, exec_wordProgramDone_ends hp hwf hop ha hends.symm, beq_iff_eq, rfl, rfl, rfl,
      wordProgrammed_reads_word hwf ha, fun b a hne => wordProgrammed_reads_other hwf ha hne,
      fun p n k q hs hr => ?_, hother, fun hr => hkept (.inl hr)⟩
    rw [State.wordProgrammed_arrays, Arrays.bank_setBank_self]
    exact hready p n k q hs hr
  case outside =>
    have houtside : s.programsOutside = true := by simp [State.programsOutside, hp, hop, ha]
    exact if_pos houtside

/-! ### The commit that fails (R122) -/

section
variable {s : State} {w : WordOp} {c : Commit}

theorem wordEnded_of_commitWord_failed (hw : w.purpose = .commitWord) (hc : s.programmer.commit = some c) :
    s.wordEnded w false = s.beginStep .commitVoid c.bank c.start 0xFFF7 := by
  simp [State.wordEnded, hw, hc, voidStep]

theorem wordEnded_of_commitVoid (hw : w.purpose = .commitVoid) (hc : s.programmer.commit = some c) (passed : Bool) :
    s.wordEnded w passed = (s.commitVoid c).take := by
  simp [State.wordEnded, hw, hc]

/-- What a commit that ends VOID leaves: its bank CLOSED, its slot empty. -/
theorem commitVoid_spec (s : State) (c : Commit) : (s.commitVoid c).programmer.commit = none
    ∧ ((s.commitVoid c).store.bank c.bank).state = .closed ∧ (s.commitVoid c).store.openBank = none
    ∧ (s.commitVoid c).store.appendPoint = c.start + c.length ∧ (s.commitVoid c).store.unread = s.store.unread
    ∧ (s.commitVoid c).staging = s.staging.setSlot c.slot .empty := by
  obtain ⟨slot, bank, start, length, next⟩ := c
  cases bank <;> exact ⟨rfl, rfl, rfl, rfl, rfl, rfl⟩

end

/-- Settles O42: a commit word that fails thrice is voided; the VOID step ends the commit however it verifies. -/
theorem failedCommitEndsVoid : Obligations.FailedCommitEndsVoid := by
  intro w c missed s hp hop hc ha hwf
  refine ⟨fun hw h3 hfail => ?failed, fun hw hends => ?void⟩
  case failed =>
    rw [exec_wordProgramDone_fails hp hwf hop ha h3 hfail,
      wordEnded_of_commitWord_failed (s := s.wordProgrammed w missed) hw hc]
    exact ⟨_, _, rfl, rfl, rfl, rfl, rfl, rfl, rfl, rfl, rfl⟩
  case void =>
    refine ⟨(s.wordProgrammed w missed).commitVoid c, ?_, commitVoid_spec _ c⟩
    rw [exec_wordProgramDone_ends hp hwf hop ha hends, wordEnded_of_commitVoid (s := s.wordProgrammed w missed) hw hc]

/-! ### The mark (R124, R149) -/

theorem and_four_eq_zero_iff (v : Word) : v &&& 4 = 0 ↔ v.getLsbD 2 = false := by
  have hbit : v &&& 4 = if v.getLsbD 2 then 4 else 0 := BitVec.and_twoPow v 2
  rw [hbit]
  cases v.getLsbD 2 <;> simp

/-- What a READ step programs, by whether its bit is missed. -/
theorem readStep_or (missed : Word) : 0xFFFB ||| missed = if missed.getLsbD 2 then 0xFFFF else (0xFFFB : Word) := by
  apply BitVec.eq_of_getLsbD_eq
  intro i hi
  cases hbit : missed[2] <;> interval_cases i <;> simp [hbit]

/-- A READ step that does not miss its bit programs the word meant; one that misses it leaves a COMPLETE word as it was. -/
theorem programmedWord_readStep {old missed : Word} (hold : recordState old = .complete) :
    (missed &&& 4 = 0 → programmedWord old 0xFFFB missed = old &&& 0xFFFB ∧ recordState (old &&& 0xFFFB) = .read)
    ∧ (missed &&& 4 ≠ 0 → programmedWord old 0xFFFB missed = old ∧ old ≠ old &&& 0xFFFB) := by
  obtain ⟨hfree, hvoid, hstarted, hcomplete⟩ := (recordState_complete_iff old).1 hold
  rw [programmedWord, readStep_or, ne_eq, and_four_eq_zero_iff, Bool.not_eq_false]
  refine ⟨fun h => ?_, fun h => ?_⟩
  · rw [h]
    refine ⟨rfl, (recordState_read_iff _).2 ?_⟩
    simpa [hvoid] using And.intro hfree hstarted
  · rw [h]
    refine ⟨BitVec.and_allOnes, fun he => ?_⟩
    rw [he] at hcomplete
    simp at hcomplete

section
variable {s : State} {w : WordOp} {n : Word} {awaited : Bool}

theorem wordEnded_of_mark (hw : w.purpose = .mark n awaited) (passed : Bool) :
    s.wordEnded w passed = (s.markEnded w n awaited passed).take := by
  simp [State.wordEnded, hw]

/-- The report of a mark: the outbox, where its answer is awaited. -/
theorem reportMark_spec (s : State) (r : Reply) :
    (s.reportMark true r).orders = { s.orders with outbox := some r, awaited := none } ∧ s.reportMark false r = s :=
  ⟨rfl, rfl⟩

theorem markEnded_of_read (h : recordState (nvRead (s.arrays.bank w.bank) w.address) = .read) (passed : Bool) :
    s.markEnded w n awaited passed = (s.setStore { s.store with unread := s.store.unread - 1 }).reportMark awaited
      (if passed then ⟨.done, n⟩ else ⟨.refused, 2⟩) := by
  simp only [State.markEnded, if_pos h]

theorem markEnded_of_unread (h : recordState (nvRead (s.arrays.bank w.bank) w.address) ≠ .read) (passed : Bool) :
    s.markEnded w n awaited passed = s.reportMark awaited (if passed then ⟨.done, n⟩ else ⟨.refused, 2⟩) := by
  simp only [State.markEnded, if_neg h]

/-- The report, with the read of a stream beside it served (R130, R149). -/
theorem reportMark_orders {y : State} {q : Orders} (hq : y.orders = { q with read := y.orders.read }) (awaited : Bool)
    (r : Reply) :
    (awaited = true → (y.reportMark awaited r).orders
      = { q with outbox := some r, awaited := none, read := (y.reportMark awaited r).orders.read })
    ∧ (awaited = false → (y.reportMark awaited r).orders = { q with read := (y.reportMark awaited r).orders.read })
    ∧ (y.reportMark awaited r).orders.read = y.orders.read := by
  refine ⟨fun h => ?_, fun h => ?_, ?_⟩
  · subst h
    rw [(reportMark_spec y r).1, hq]
  · subst h
    rw [(reportMark_spec y r).2]
    exact hq
  · cases awaited <;> rfl

theorem reportMark_keeps (s : State) (awaited : Bool) (r : Reply) :
    (s.reportMark awaited r).store = s.store ∧ (s.reportMark awaited r).arrays = s.arrays := by
  cases awaited <;> exact ⟨rfl, rfl⟩

end

/-- Settles O43: the READ step by whether its bit was missed, and the report by whether it is awaited. -/
theorem markEndsWithItsReport : Obligations.MarkEndsWithItsReport := by
  intro w n awaited missed s hp hwf hop hw ha hvalue hmeant hold
  obtain ⟨hsteps, hmisses⟩ := programmedWord_readStep (missed := missed) hold
  obtain ⟨-, -, hkept, honly⟩ := programEnded_spec s.orders w.bank
    (nvProgram Config.bankWords (s.arrays.bank w.bank) w.address w.value missed)
  have hword := wordProgrammed_reads_word (w := w) (missed := missed) hwf ha
  rw [hvalue] at hword
  refine ⟨fun hm => ?done, fun h3 hm => ?refused⟩
  case done =>
    obtain ⟨hpass, hread⟩ := hsteps hm
    rw [hpass] at hword
    have hexec := exec_wordProgramDone_passes (missed := missed) hp hwf hop ha (by rw [hvalue, hmeant, hpass])
    rw [wordEnded_of_mark (s := s.wordProgrammed w missed) hw, markEnded_of_read (by rw [hword]; exact hread)] at hexec
    obtain ⟨hyes, hno, hreads⟩ := reportMark_orders
      (y := (s.wordProgrammed w missed).setStore { s.store with unread := s.store.unread - 1 }) (q := s.orders) honly awaited
      ⟨.done, n⟩
    obtain ⟨hstore, harrays⟩ := reportMark_keeps
      ((s.wordProgrammed w missed).setStore { s.store with unread := s.store.unread - 1 }) awaited ⟨.done, n⟩
    have hstate := (congrArg (fun m : Arrays => recordState (nvRead (m.bank w.bank) w.address)) harrays).trans
      ((congrArg recordState hword).trans hread)
    exact ⟨_, hexec, hstate, hstore, hyes, hno, fun h => hreads.trans (congrArg Orders.read (hkept h))⟩
  case refused =>
    obtain ⟨hsame, hne⟩ := hmisses hm
    rw [hsame] at hword
    have hexec := exec_wordProgramDone_fails (missed := missed) hp hwf hop ha h3 (by rw [hvalue, hmeant, hsame]; exact hne)
    rw [wordEnded_of_mark (s := s.wordProgrammed w missed) hw,
      markEnded_of_unread (by rw [hword, hold]; exact nofun)] at hexec
    obtain ⟨hyes, hno, hreads⟩ := reportMark_orders (y := s.wordProgrammed w missed) (q := s.orders) honly awaited
      ⟨.refused, 2⟩
    obtain ⟨hstore, harrays⟩ := reportMark_keeps (s.wordProgrammed w missed) awaited ⟨.refused, 2⟩
    have hstate := (congrArg (fun m : Arrays => recordState (nvRead (m.bank w.bank) w.address)) harrays).trans
      ((congrArg recordState hword).trans hold)
    exact ⟨_, hexec, hstate, hstore, hyes, hno, fun h => hreads.trans (congrArg Orders.read (hkept h))⟩

/-! ### The header (R117, R118) -/

section
variable {s : State} {w : WordOp}

theorem wordEnded_of_header (hw : w.purpose = .header) : s.wordEnded w true = (s.takeSlot w.bank).take
    ∧ s.wordEnded w false = (s.setStore (s.store.headerFailed w.bank)).take := by
  simp [State.wordEnded, hw]

theorem takeSlot_of_head {b : BankId} {i : SlotId} {p : Word} {img : List Word} (h : s.staging.head = some (i, p, img)) :
    s.takeSlot b = (s.setStaging
        { s.staging.setSlot i (.committing p img) with handOver := s.staging.handOver.drop 1 }).setProgrammer
      { s.programmer with commit := some ⟨i, b, s.store.appendPoint, img.length, 0⟩ } := by
  simp only [State.takeSlot, Staging.takeHead, h]

theorem headerFailed_spec (t : Store) (b : BankId) : ((t.headerFailed b).bank b).state = .dirty
    ∧ ((t.headerFailed b).bank b).erasePending = true ∧ (t.headerFailed b).openBank = none := by
  cases b <;> exact ⟨rfl, rfl, rfl⟩

end

/-- Settles O44: a header that verifies takes the first record handed over; one that fails thrice condemns its bank. -/
theorem headerOpensTheBankOrCondemnsIt : Obligations.HeaderOpensTheBankOrCondemnsIt := by
  intro w missed s hp hwf hop hw ha
  have hin : w.address < Config.bankWords := by rw [ha]; decide
  obtain ⟨hopens, hcondemns⟩ := wordEnded_of_header (s := s.wordProgrammed w missed) hw
  refine ⟨fun i p img hhead hpass => ?opens, fun h3 hfail => ?condemns⟩
  case opens =>
    rw [exec_wordProgramDone_passes hp hwf hop hin (by rw [ha]; exact hpass), hopens,
      takeSlot_of_head (s := s.wordProgrammed w missed) hhead]
    exact ⟨_, rfl, rfl, Staging.slot_setSlot_self _ _ _, rfl, rfl⟩
  case condemns =>
    rw [exec_wordProgramDone_fails hp hwf hop hin (by omega) (by rw [ha]; exact hfail), hcondemns]
    obtain ⟨hstate, hpending, hopen⟩ := headerFailed_spec s.store w.bank
    exact ⟨_, rfl, hstate, hpending, hopen, rfl⟩

end Sys2Proof.Machine
end

section
/-!
Room for a record (O49): the open bank and its room, the bank opened next, the erase waited for, the bank reclaimed.
-/

namespace Sys2Proof.Machine

theorem allReadOrVoid_iff (m : Nv) (xs : List Extent) : allReadOrVoid m xs = true
    ↔ ∀ x ∈ xs, recordState (nvRead m x.position) = .read ∨ recordState (nvRead m x.position) = .void := by
  simp [allReadOrVoid, extentState]

/-- Of two CLOSED banks the sequence values tell the newer (R116). -/
theorem newerBank_of_closed {t : Store} (m : Arrays) (h0 : t.bank0.state = .closed) (h1 : t.bank1.state = .closed) :
    (∀ b : BankId, nvRead (m.bank b) 0 = sequenceSuccessor (nvRead (m.bank b.other) 0) → newerBank t m = b)
    ∧ ((∀ b : BankId, nvRead (m.bank b) 0 ≠ sequenceSuccessor (nvRead (m.bank b.other) 0)) →
      (∀ b : BankId, (nvRead (m.bank b.other) 0).toNat < (nvRead (m.bank b) 0).toNat → newerBank t m = b)
      ∧ (nvRead (m.bank .bank0) 0 = nvRead (m.bank .bank1) 0 → newerBank t m = .bank0)) := by
  have hwritten0 : ¬t.Unwritten m .bank0 := fun ⟨h, _⟩ => by rw [show (t.bank .bank0).state = .closed from h0] at h; cases h
  have hwritten1 : ¬t.Unwritten m .bank1 := fun ⟨h, _⟩ => by rw [show (t.bank .bank1).state = .closed from h1] at h; cases h
  exact ⟨fun b => newerBank_of_successor hwritten0 hwritten1, fun hs =>
    ⟨fun b => newerBank_of_greater hwritten0 hwritten1 hs, newerBank_of_equal hwritten0 hwritten1 hs⟩⟩

/-! ### The reclaimed bank and the bank opened, with no bank open (R125, R126, R127) -/

/-- A bank that a record may open: FRESH with no erase pending. -/
def Bank.Opens (k : Bank) : Prop := k.state = .fresh ∧ k.erasePending = false

/-- A bank whose erase a record waits for. -/
def Bank.Waits (k : Bank) : Prop :=
  k.state = .dirty ∨ k.state = .erasing ∨ (k.state = .closed ∨ k.state = .fresh) ∧ k.erasePending = true

theorem awaitsErase_iff (k : Bank) : awaitsErase k = true ↔ k.Waits := by
  unfold awaitsErase Bank.Waits
  cases hs : k.state <;> simp

section
variable {pol : StorePolicy} {t : Store} {m : Arrays}

theorem roomNoOpen_of_opens {b : BankId} (hb : (t.bank b).Opens) (h0 : b = .bank1 → ¬(t.bank .bank0).Opens) :
    roomNoOpen pol t m = (t.openFresh b, .commit b) := by
  cases b with
  | bank0 => exact if_pos ⟨hb.1, by rw [show t.bank0.erasePending = false from hb.2]; rfl⟩
  | bank1 =>
    have h0 : ¬t.bank0.Opens := h0 rfl
    refine (if_neg fun h => h0 ⟨h.1, by simpa using h.2⟩).trans (if_pos ⟨hb.1, ?_⟩)
    rw [show t.bank1.erasePending = false from hb.2]; rfl

section
variable (h0 : ¬(t.bank .bank0).Opens) (h1 : ¬(t.bank .bank1).Opens)
include h0 h1

theorem roomNoOpen_of_waits {b : BankId} (hw : (t.bank b).Waits) : roomNoOpen pol t m = (t, .wait) := by
  have hawaits : (awaitsErase t.bank0 || awaitsErase t.bank1) = true := by
    rw [Bool.or_eq_true, awaitsErase_iff, awaitsErase_iff]
    cases b with
    | bank0 => exact .inl hw
    | bank1 => exact .inr hw
  have h0 : ¬t.bank0.Opens := h0
  have h1 : ¬t.bank1.Opens := h1
  exact (if_neg fun h => h0 ⟨h.1, by simpa using h.2⟩).trans
    ((if_neg fun h => h1 ⟨h.1, by simpa using h.2⟩).trans (if_pos hawaits))

variable (hw : ∀ b, ¬(t.bank b).Waits)
include hw

theorem roomNoOpen_of_candidate {b : BankId} (hc : reclaimCandidate t m = some b) :
    roomNoOpen pol t m = reclaim pol t m b := by
  have hawaits : ¬(awaitsErase t.bank0 || awaitsErase t.bank1) = true := by
    rw [Bool.or_eq_true, awaitsErase_iff, awaitsErase_iff, not_or]
    exact ⟨hw .bank0, hw .bank1⟩
  have h0 : ¬t.bank0.Opens := h0
  have h1 : ¬t.bank1.Opens := h1
  rw [roomNoOpen, if_neg fun h => h0 ⟨h.1, by simpa using h.2⟩, if_neg fun h => h1 ⟨h.1, by simpa using h.2⟩,
    if_neg hawaits, hc]

theorem roomNoOpen_of_no_candidate (hc : reclaimCandidate t m = none) : roomNoOpen pol t m = (t, .wait) := by
  have hawaits : ¬(awaitsErase t.bank0 || awaitsErase t.bank1) = true := by
    rw [Bool.or_eq_true, awaitsErase_iff, awaitsErase_iff, not_or]
    exact ⟨hw .bank0, hw .bank1⟩
  have h0 : ¬t.bank0.Opens := h0
  have h1 : ¬t.bank1.Opens := h1
  rw [roomNoOpen, if_neg fun h => h0 ⟨h.1, by simpa using h.2⟩, if_neg fun h => h1 ⟨h.1, by simpa using h.2⟩,
    if_neg hawaits, hc]

end

/-- A bank that is CLOSED with no erase pending, or BAD. -/
def Bank.Settled (k : Bank) : Prop := k.state = .closed ∧ k.erasePending = false ∨ k.state = .bad

/-- A settled bank neither opens nor is waited for. -/
theorem settled_bank {k : Bank} (h : k.Settled) :
    ¬k.Opens ∧ ¬k.Waits := by
  unfold Bank.Opens Bank.Waits
  rcases h with ⟨hs, hp⟩ | hs
  · simp [hs, hp]
  · simp [hs]

theorem roomNoOpen_of_settled
    (h : ∀ b, (t.bank b).Settled) :
    (∀ b, reclaimCandidate t m = some b → roomNoOpen pol t m = reclaim pol t m b)
    ∧ (reclaimCandidate t m = none → roomNoOpen pol t m = (t, .wait)) :=
  ⟨fun _ => roomNoOpen_of_candidate (settled_bank (h _)).1 (settled_bank (h _)).1 fun b => (settled_bank (h b)).2,
    roomNoOpen_of_no_candidate (settled_bank (h _)).1 (settled_bank (h _)).1 fun b => (settled_bank (h b)).2⟩

theorem reclaimCandidate_cases (t : Store) (m : Arrays) :
    (t.bank0.state = .closed → t.bank1.state = .closed → reclaimCandidate t m = some (newerBank t m).other)
    ∧ (∀ b, (t.bank b).state = .closed → (t.bank b.other).state = .bad → reclaimCandidate t m = some b)
    ∧ (t.bank0.state = .bad → t.bank1.state = .bad → reclaimCandidate t m = none) := by
  refine ⟨fun h0 h1 => ?_, fun b hb ho => ?_, fun h0 h1 => ?_⟩
  · rw [reclaimCandidate, h0, h1]
  · cases b with
    | bank0 => rw [reclaimCandidate, show t.bank0.state = .closed from hb, show t.bank1.state = .bad from ho]
    | bank1 => rw [reclaimCandidate, show t.bank1.state = .closed from hb, show t.bank0.state = .bad from ho]
  · rw [reclaimCandidate, h0, h1]

theorem reclaim_cases (t : Store) (m : Arrays) (b : BankId) :
    (pol = .overwrite ∨ allReadOrVoid (m.bank b) (t.bank b).records = true → reclaim pol t m b = (t.setPending b, .wait))
    ∧ (pol = .keep → allReadOrVoid (m.bank b) (t.bank b).records = false → reclaim pol t m b = (t, .full)) := by
  refine ⟨fun h => if_pos h, fun hp hr => if_neg ?_⟩
  rw [hp, hr]
  simp

/-! ### The check by whether a bank is open (R125) -/

theorem roomCheck_full_iff (n : Nat) : (roomCheck pol t m n).1.full = true ↔ (roomCheck pol t m n).2 = .full :=
  beq_iff_eq

/-- The check once its case is found: FULL shows whether it found none. -/
theorem roomCheck_of_cases {n : Nat} {u : Store} {r : Room} (h : roomCases pol t m n = (u, r)) :
    roomCheck pol t m n = ({ u with full := r == .full }, r) := by
  rw [roomCheck, h]

theorem roomCases_of_none (h : t.openBank = none) (n : Nat) : roomCases pol t m n = roomNoOpen pol t m := by
  rw [roomCases, h]

section
variable {b : BankId} (hb : t.openBank = some b)
include hb

theorem roomCases_of_erase (h : (t.bank b).erasePending = true ∨ (t.bank b).state = .erasing) (n : Nat) :
    roomCases pol t m n = (t, .wait) := by
  rw [roomCases, hb]
  exact if_pos h

variable (hs : (t.bank b).state = .opened) (hp : (t.bank b).erasePending = false)
include hs hp

theorem roomCases_of_fits {n : Nat} (hn : n ≤ Config.bankWords - t.appendPoint) :
    roomCases pol t m n = (t, .commit b) := by
  have hfree : freeWords t = 16384 - t.appendPoint := (freeWords_cases t).2.2 b hb (by rw [hs]; exact nofun)
  rw [roomCases, hb]
  exact (if_neg (by rw [hs, hp]; simp)).trans (if_pos (by rw [hfree]; exact hn))

theorem roomCases_of_too_long {n : Nat} (hn : Config.bankWords - t.appendPoint < n) :
    roomCases pol t m n = roomNoOpen pol (t.closeBank b) m := by
  have hfree : freeWords t = 16384 - t.appendPoint := (freeWords_cases t).2.2 b hb (by rw [hs]; exact nofun)
  rw [roomCases, hb]
  exact (if_neg (by rw [hs, hp]; simp)).trans (if_neg (by rw [hfree]; exact Nat.not_le.2 hn))

end

end

theorem closeBank_spec (t : Store) (b : BankId) : ((t.closeBank b).bank b).state = .closed
    ∧ (t.closeBank b).bank b.other = t.bank b.other ∧ (t.closeBank b).openBank = none := by
  cases b <;> exact ⟨rfl, rfl, rfl⟩

theorem openFresh_spec (t : Store) (b : BankId) : (t.openFresh b).openBank = some b ∧ (t.openFresh b).appendPoint = 1
    ∧ ((t.openFresh b).bank b).state = .opened ∧ (t.openFresh b).bank b.other = t.bank b.other := by
  cases b <;> exact ⟨rfl, rfl, rfl, rfl⟩

/-- The check when the room is a matter of reclaiming bank `b`. -/
theorem roomCheck_of_reclaim {pol : StorePolicy} {t : Store} {m : Arrays} {n : Nat} {b : BankId}
    (h : roomCases pol t m n = reclaim pol t m b) :
    (pol = .overwrite ∨ allReadOrVoid (m.bank b) (t.bank b).records = true → (roomCheck pol t m n).2 = .wait
      ∧ (roomCheck pol t m n).1 = { t.setBank b { t.bank b with erasePending := true } with full := false })
    ∧ (pol = .keep → allReadOrVoid (m.bank b) (t.bank b).records = false →
        (roomCheck pol t m n).2 = .full ∧ (roomCheck pol t m n).1 = { t with full := true }) := by
  obtain ⟨hreclaims, hfull⟩ := reclaim_cases (pol := pol) t m b
  refine ⟨fun hc => ?_, fun hp hc => ?_⟩
  · rw [roomCheck_of_cases (h.trans (hreclaims hc))]; exact ⟨rfl, rfl⟩
  · rw [roomCheck_of_cases (h.trans (hfull hp hc))]; exact ⟨rfl, rfl⟩

/-- Settles O49: the check by its cases, with the open bank and without. -/
theorem roomCheckFollowsItsCases : Obligations.RoomCheckFollowsItsCases := by
  refine ⟨allReadOrVoid_iff, fun t m h0 h1 => newerBank_of_closed m h0 h1, fun pol t m n => ⟨roomCheck_full_iff n,
    fun b hb he => ?erase, fun b hb hs hp hn => ?fits, fun b hb hs hp hn => ?tooLong, fun b hb hs hp hn ho hop => ?next,
    fun b hn hopens h0 => ?opens, fun b hn h0 h1 hw => ?waits, fun hn h0 h1 hp0 hp1 => ?older, fun b hn hs hp ho => ?only,
    fun hn h0 h1 => ?bad⟩⟩
  case erase => rw [roomCheck_of_cases (roomCases_of_erase hb he n)]; exact ⟨rfl, rfl⟩
  case fits => rw [roomCheck_of_cases (roomCases_of_fits hb hs hp hn)]; exact ⟨rfl, rfl⟩
  case tooLong =>
    have hsame : roomCases pol t m n = roomCases pol (t.closeBank b) m n := by
      rw [roomCases_of_too_long hb hs hp hn, roomCases_of_none rfl]
    show roomCheck pol t m n = roomCheck pol (t.closeBank b) m n
    simp only [roomCheck, hsame]
  case next =>
    obtain ⟨hclosed, hother, -⟩ := closeBank_spec t b
    have hnext : ((t.closeBank b).bank b.other).Opens := by rw [hother]; exact ⟨ho, hop⟩
    have hfirst : b.other = .bank1 → ¬((t.closeBank b).bank .bank0).Opens := by
      intro h1 hopens
      obtain rfl : b = .bank0 := by cases b <;> simp_all [BankId.other]
      exact absurd (hclosed.symm.trans hopens.1) nofun
    rw [roomCheck_of_cases ((roomCases_of_too_long hb hs hp hn).trans (roomNoOpen_of_opens hnext hfirst))]
    obtain ⟨hopen, happend, -, hkept⟩ := openFresh_spec (t.closeBank b) b.other
    rw [BankId.other_other] at hkept
    exact ⟨rfl, hopen, happend, (congrArg Bank.state hkept).trans hclosed⟩
  case opens =>
    rw [roomCheck_of_cases ((roomCases_of_none hn n).trans (roomNoOpen_of_opens hopens h0))]
    obtain ⟨hopen, happend, hstate, hkept⟩ := openFresh_spec t b
    exact ⟨rfl, hopen, happend, hstate, hkept⟩
  case waits =>
    rw [roomCheck_of_cases ((roomCases_of_none hn n).trans (roomNoOpen_of_waits h0 h1 hw))]
    exact ⟨rfl, rfl⟩
  case older =>
    have hsettled (b : BankId) : (t.bank b).Settled := by
      cases b with
      | bank0 => exact .inl ⟨h0, hp0⟩
      | bank1 => exact .inl ⟨h1, hp1⟩
    exact roomCheck_of_reclaim ((roomCases_of_none hn n).trans ((roomNoOpen_of_settled hsettled).1 _
      ((reclaimCandidate_cases t m).1 h0 h1)))
  case only =>
    have hsettled (k : BankId) : (t.bank k).Settled := by
      by_cases hk : k = b
      · rw [hk]; exact .inl ⟨hs, hp⟩
      · obtain rfl : k = b.other := by cases k <;> cases b <;> simp_all [BankId.other]
        exact .inr ho
    exact roomCheck_of_reclaim ((roomCases_of_none hn n).trans ((roomNoOpen_of_settled hsettled).1 _
      ((reclaimCandidate_cases t m).2.1 b hs ho)))
  case bad =>
    have hsettled (b : BankId) : (t.bank b).Settled := by
      cases b with
      | bank0 => exact .inr h0
      | bank1 => exact .inr h1
    rw [roomCheck_of_cases ((roomCases_of_none hn n).trans ((roomNoOpen_of_settled hsettled).2
      ((reclaimCandidate_cases t m).2.2 h0 h1)))]
    exact ⟨rfl, rfl⟩

end Sys2Proof.Machine
end

section
/-!
The programmer takes its next operation (O48): the first level that has one, level by level (R132).
-/

namespace Sys2Proof.Machine

/-! ### The levels (R132) -/

section
variable {s : State}

theorem orTake_busy (h : s.programmer.op ≠ .idle) (lower : State → State) : s.orTake lower = s := if_neg h

theorem orTake_idle (h : s.programmer.op = .idle) (lower : State → State) : s.orTake lower = lower s := if_pos h

theorem take_of_pulse {p : Pulse} {ps : List Pulse} (hop : s.programmer.op = .idle) (hp : s.programmer.pulses = p :: ps) :
    s.take = (s.setProgrammer { s.programmer with pulses := ps }).beginOp (.pulse p) := by
  have hpulse : s.takePulse = (s.setProgrammer { s.programmer with pulses := ps }).beginOp (.pulse p) := by
    rw [State.takePulse, hp]
  have hbusy : ((s.setProgrammer { s.programmer with pulses := ps }).beginOp (.pulse p)).programmer.op ≠ .idle := nofun
  rw [State.take, orTake_idle hop, hpulse, orTake_busy hbusy, orTake_busy hbusy, orTake_busy hbusy, orTake_busy hbusy]

/-- Without pulses the marks come first. -/
theorem take_of_no_pulse (hop : s.programmer.op = .idle) (hp : s.programmer.pulses = []) : s.take
    = (((s.takeMarks s.programmer.marks).orTake State.takeRecord).orTake State.takeVoid).orTake State.takeErase := by
  have hnone : s.takePulse = s := by rw [State.takePulse, hp]
  rw [State.take, orTake_idle hop, hnone, orTake_idle hop]

theorem takeMarks_of_complete {j : MarkJob} {js : List MarkJob} {b : BankId} {x : Extent}
    (hf : findByNumber s.store s.arrays j.number = some (b, x)) (hx : extentState (s.arrays.bank b) x = .complete) :
    s.takeMarks (j :: js) = (s.setProgrammer { s.programmer with marks := js }).beginStep (.mark j.number j.awaited) b
      x.position readStep := by
  rw [State.takeMarks, hf]
  exact if_pos hx

theorem takeMarks_of_absent {j : MarkJob} {js : List MarkJob}
    (h : ∀ b x, findByNumber s.store s.arrays j.number = some (b, x) → extentState (s.arrays.bank b) x ≠ .complete) :
    s.takeMarks (j :: js) = (s.reportMark j.awaited ⟨.absent, j.number⟩).takeMarks js := by
  rw [State.takeMarks]
  split
  next y hy => exact if_neg (h y.1 y.2 hy)
  next => rfl

end

theorem reportMark_setProgrammer (s : State) (p : Programmer) (awaited : Bool) (r : Reply) :
    (s.setProgrammer p).reportMark awaited r = (s.reportMark awaited r).setProgrammer p := by
  cases awaited <;> rfl

theorem reportMark_programmer (s : State) (awaited : Bool) (r : Reply) :
    (s.reportMark awaited r).programmer = s.programmer := by
  cases awaited <;> rfl

/-- The marks in the programmer do not bear on the taking of others. -/
theorem takeMarks_setMarks (js : List MarkJob) : ∀ (s : State) (ms : List MarkJob),
    (s.setProgrammer { s.programmer with marks := ms }).takeMarks js = s.takeMarks js := by
  induction js with
  | nil => exact fun s ms => rfl
  | cons j js ih =>
    intro s ms
    by_cases h : ∃ b x, findByNumber s.store s.arrays j.number = some (b, x)
        ∧ extentState (s.arrays.bank b) x = .complete
    · obtain ⟨b, x, hf, hx⟩ := h
      rw [takeMarks_of_complete hf hx, takeMarks_of_complete (s := s.setProgrammer { s.programmer with marks := ms }) hf hx]
      rfl
    · have h (b : BankId) (x : Extent) (hf : findByNumber s.store s.arrays j.number = some (b, x)) :
          extentState (s.arrays.bank b) x ≠ .complete := fun hx => h ⟨b, x, hf, hx⟩
      rw [takeMarks_of_absent h, takeMarks_of_absent (s := s.setProgrammer { s.programmer with marks := ms }) h,
        reportMark_setProgrammer, ← reportMark_programmer s j.awaited ⟨.absent, j.number⟩, ih]

section
variable {s : State} (hop : s.programmer.op = .idle) (hp : s.programmer.pulses = [])
include hop hp

theorem take_of_mark {j : MarkJob} {js : List MarkJob} (hm : s.programmer.marks = j :: js) {b : BankId} {x : Extent}
    (hf : findByNumber s.store s.arrays j.number = some (b, x)) (hx : extentState (s.arrays.bank b) x = .complete) :
    s.take = (s.setProgrammer { s.programmer with marks := js }).beginStep (.mark j.number j.awaited) b
      x.position readStep := by
  have hbusy : ((s.setProgrammer { s.programmer with marks := js }).beginStep (.mark j.number j.awaited) b
      x.position readStep).programmer.op ≠ .idle := nofun
  rw [take_of_no_pulse hop hp, hm, takeMarks_of_complete hf hx, orTake_busy hbusy, orTake_busy hbusy, orTake_busy hbusy]

/-- A mark whose number is not found COMPLETE is reported absent, and the taking goes on (R149). -/
theorem take_of_absent_mark {j : MarkJob} {js : List MarkJob} (hm : s.programmer.marks = j :: js)
    (h : ∀ b x, findByNumber s.store s.arrays j.number = some (b, x) → extentState (s.arrays.bank b) x ≠ .complete) :
    s.take = ((s.reportMark j.awaited ⟨.absent, j.number⟩).setProgrammer { s.programmer with marks := js }).take := by
  have htaken := takeMarks_setMarks js (s.reportMark j.awaited ⟨.absent, j.number⟩) js
  rw [reportMark_programmer] at htaken
  rw [take_of_no_pulse hop hp, hm, takeMarks_of_absent h, take_of_no_pulse
    (s := (s.reportMark j.awaited ⟨.absent, j.number⟩).setProgrammer { s.programmer with marks := js }) hop hp]
  exact congrArg (fun t => ((State.orTake t State.takeRecord).orTake State.takeVoid).orTake State.takeErase) htaken.symm

variable (hm : s.programmer.marks = [])
include hm

/-- Without pulses and marks the record comes first. -/
theorem take_of_no_mark : s.take = (s.takeRecord.orTake State.takeVoid).orTake State.takeErase := by
  have hnone : s.takeMarks [] = s := by
    show s.setProgrammer { s.programmer with marks := [] } = s
    rw [← hm]
    rfl
  rw [take_of_no_pulse hop hp, hm, hnone, orTake_idle hop]

theorem take_of_busy_record (hbusy : s.takeRecord.programmer.op ≠ .idle) : s.take = s.takeRecord := by
  rw [take_of_no_mark hop hp hm, orTake_busy hbusy, orTake_busy hbusy]

/-- Without a record to take, the VOID steps and then the erases, in the store the check for room left. -/
theorem take_of_no_record {t : Store} (ht : s.takeRecord = s.setStore t) :
    s.take = ((s.setStore t).takeVoid).orTake State.takeErase := by
  rw [take_of_no_mark hop hp hm, ht, orTake_idle (s := s.setStore t) hop]

end

/-! ### The commit (R121) -/

theorem beginCommitWord_cases (s : State) (c : Commit) :
    (c.next = 0 → s.beginCommitWord c
      = (s.setStore (s.store.addRecord c.bank ⟨c.start, c.length⟩)).beginStep .commitWord c.bank c.start 0xFFFE)
    ∧ (c.next ≠ 0 → c.next = c.length → s.beginCommitWord c = s.beginStep .commitWord c.bank c.start 0xFFFD)
    ∧ (c.next ≠ 0 → c.next ≠ c.length → s.beginCommitWord c
        = s.beginWord .commitWord c.bank (c.start + c.next) ((s.staging.slot c.slot).image.getD c.next 0xFFFF)) := by
  unfold State.beginCommitWord
  exact ⟨fun h => if_pos h, fun h0 hl => (if_neg h0).trans (if_pos hl), fun h0 hl => (if_neg h0).trans (if_neg hl)⟩

theorem beginCommitWord_busy (s : State) (c : Commit) : (s.beginCommitWord c).programmer.op ≠ .idle := by
  unfold State.beginCommitWord
  split
  · exact nofun
  · split <;> exact nofun

theorem addRecord_bank (t : Store) (b : BankId) (x : Extent) :
    (t.addRecord b x).bank b = { t.bank b with records := (t.bank b).records ++ [x] } :=
  Store.bank_setBank_self _ _ _

section
variable {s : State}

theorem takeRecord_of_commit {c : Commit} (hc : s.programmer.commit = some c) : s.takeRecord = s.beginCommitWord c := by
  rw [State.takeRecord, hc]

theorem takeRecord_of_no_record (hc : s.programmer.commit = none) (hh : s.staging.head = none) : s.takeRecord = s := by
  rw [State.takeRecord, hc, hh]

variable {i : SlotId} {p : Word} {w : List Word} {t : Store} (hc : s.programmer.commit = none)
  (hh : s.staging.head = some (i, p, w))
include hc hh

theorem takeRecord_of_room {b : BankId} (hr : roomCheck s.settings.policy s.store s.arrays w.length = (t, .commit b)) :
    s.takeRecord = (s.setStore t).beginCommit b := by
  simp only [State.takeRecord, hc, hh, hr]

theorem takeRecord_of_no_room {r : Room} (hr : roomCheck s.settings.policy s.store s.arrays w.length = (t, r))
    (hn : ∀ b, r ≠ .commit b) : s.takeRecord = s.setStore t := by
  simp only [State.takeRecord, hc, hh, hr]
  cases r with
  | commit b => exact absurd rfl (hn b)
  | wait | full => rfl

end

theorem beginCommit_of_unwritten {s : State} {b : BankId} (h : nvRead (s.arrays.bank b) 0 = 0xFFFF) :
    s.beginCommit b = s.beginWord .header b 0 (headerValue s.store s.arrays b) := if_pos h

theorem beginCommit_of_written {s : State} {b : BankId} (h : nvRead (s.arrays.bank b) 0 ≠ 0xFFFF) :
    s.beginCommit b = (s.takeSlot b).continueCommit := if_neg h

/-! ### The check for room and the queue of VOID steps -/

theorem reclaim_voidQueue (pol : StorePolicy) (t : Store) (m : Arrays) (b : BankId) :
    (reclaim pol t m b).1.voidQueue = t.voidQueue := by
  unfold reclaim
  split
  · exact Store.setBank_voidQueue t b _
  · rfl

theorem roomNoOpen_voidQueue (pol : StorePolicy) (t : Store) (m : Arrays) :
    (roomNoOpen pol t m).1.voidQueue = t.voidQueue := by
  unfold roomNoOpen
  split
  · rfl
  · split
    · rfl
    · split
      · rfl
      · split
        · exact reclaim_voidQueue pol t m _
        · rfl

theorem roomCheck_voidQueue (pol : StorePolicy) (t : Store) (m : Arrays) (n : Nat) :
    (roomCheck pol t m n).1.voidQueue = t.voidQueue := by
  show (roomCases pol t m n).1.voidQueue = t.voidQueue
  unfold roomCases
  split
  next b _ =>
    split
    · rfl
    · split
      · rfl
      · exact (roomNoOpen_voidQueue pol (t.closeBank b) m).trans (Store.setBank_voidQueue t b _)
  next => exact roomNoOpen_voidQueue pol t m

/-! ### VOID steps and erases (R125, R128, R131) -/

section
variable {s : State}

theorem takeVoid_of_queue {b : BankId} {x : Extent} {xs : List (BankId × Extent)} (h : s.store.voidQueue = (b, x) :: xs) :
    s.takeVoid = (s.setStore { s.store with voidQueue := xs }).beginStep .voidMark b x.position 0xFFF7 := by
  rw [State.takeVoid, h]
  rfl

theorem takeVoid_of_empty (h : s.store.voidQueue = []) : s.takeVoid = s := by rw [State.takeVoid, h]

theorem takeErase_cases (s : State) :
    (s.store.bank0.erasePending = true → s.takeErase = s.beginBankErase .bank0)
    ∧ (s.store.bank0.erasePending = false → s.store.bank1.erasePending = true → s.takeErase = s.beginBankErase .bank1)
    ∧ (s.store.bank0.erasePending = false → s.store.bank1.erasePending = false → s.takeErase = s) := by
  unfold State.takeErase
  refine ⟨fun h => if_pos h, fun h0 h1 => ?_, fun h0 h1 => ?_⟩
  · rw [h0]; exact if_pos h1
  · rw [h0, h1]; rfl

/-- A bank erase that begins leaves the other bank as it was. -/
theorem beginBankErase_spec (s : State) (b : BankId) : (s.beginBankErase b).store.bank b = ⟨.erasing, false, []⟩
    ∧ (s.beginBankErase b).store.bank b.other = s.store.bank b.other := by
  cases b <;> exact ⟨rfl, rfl⟩

end

/-- Settles O48: each level by the first that has something to take. -/
theorem programmerTakesTheFirstLevel : Obligations.ProgrammerTakesTheFirstLevel := by
  refine ⟨head_eq_some_iff, fun n w => ⟨rfl, rfl⟩, fun s => ⟨State.take_of_busy, fun p ps hop hp => ?pulse,
    fun j js b x hop hp hm hf hx => ?mark, fun j js hop hp hm h => ?absent, fun c hop hp hm hc => ?commit,
    fun i p w t b hop hp hm hc hh hr => ?record, fun t hop hp hm hc hroom => ?lower⟩⟩
  case pulse => rw [take_of_pulse hop hp]; exact ⟨rfl, rfl, rfl⟩
  case mark => rw [take_of_mark hop hp hm hf hx]; exact ⟨rfl, rfl, rfl⟩
  case absent =>
    rw [take_of_absent_mark hop hp hm h]
    cases j.awaited <;> rfl
  case commit =>
    have htake : s.take = s.beginCommitWord c := by
      rw [take_of_busy_record hop hp hm (by rw [takeRecord_of_commit hc]; exact beginCommitWord_busy s c),
        takeRecord_of_commit hc]
    obtain ⟨hfirst, hlast, hword⟩ := beginCommitWord_cases s c
    rw [htake]
    refine ⟨fun h0 => ?_, fun v h0 hl hv => ?_, fun hl h0 => ?_⟩
    · rw [hfirst h0]
      exact ⟨rfl, congrArg Bank.records (addRecord_bank _ _ _)⟩
    · rw [hword h0 hl, List.getD_eq_getElem?_getD, hv]
      exact ⟨rfl, rfl⟩
    · rw [hlast h0 hl]
      exact ⟨rfl, rfl⟩
  case record =>
    have htaken := takeRecord_of_room hc hh hr
    refine ⟨fun hu => ?_, fun hw => ?_⟩
    · rw [beginCommit_of_unwritten (s := s.setStore t) hu] at htaken
      rw [take_of_busy_record hop hp hm (by rw [htaken]; exact nofun), htaken]
      refine ⟨rfl, rfl, hc, fun hclosed => ?_, fun hnot => ?_⟩
      · have hvalue : headerValue t s.arrays b = sequenceSuccessor (nvRead (s.arrays.bank b.other) 0) := if_pos hclosed
        rw [← hvalue]; rfl
      · have hvalue : headerValue t s.arrays b = 1 := if_neg hnot
        rw [← hvalue]; rfl
    · rw [beginCommit_of_written (s := s.setStore t) hw, takeSlot_of_head (s := s.setStore t) hh] at htaken
      have hbegun : s.takeRecord = _ :=
        htaken.trans ((beginCommitWord_cases _ ⟨i, b, t.appendPoint, w.length, 0⟩).1 rfl)
      rw [take_of_busy_record hop hp hm (by rw [hbegun]; exact nofun), hbegun]
      exact ⟨rfl, rfl, Staging.slot_setSlot_self _ _ _, rfl, congrArg Bank.records (addRecord_bank _ _ _)⟩
  case lower =>
    have hqueue : t.voidQueue = s.store.voidQueue := by
      rcases hroom with ⟨-, rfl⟩ | ⟨i, p, w, r, -, -, hr⟩
      · rfl
      · rw [← roomCheck_voidQueue s.settings.policy s.store s.arrays w.length, hr]
    have htaken : s.takeRecord = s.setStore t := by
      rcases hroom with ⟨hh, rfl⟩ | ⟨i, p, w, r, hh, hn, hr⟩
      · exact takeRecord_of_no_record hc hh
      · exact takeRecord_of_no_room hc hh hr hn
    have htake := take_of_no_record hop hp hm htaken
    obtain ⟨hzero, hone, hnone⟩ := takeErase_cases (s.setStore t)
    have hempty (hv : s.store.voidQueue = []) : s.take = (s.setStore t).takeErase := by
      rw [htake, takeVoid_of_empty (s := s.setStore t) (hqueue.trans hv), orTake_idle (s := s.setStore t) hop]
    refine ⟨fun b x xs hv => ?void, fun hv h0 => ?erase0, fun hv h0 h1 => ?erase1, fun hv h0 h1 => ?idle⟩
    case void =>
      have hbusy : (((s.setStore t).setStore { t with voidQueue := xs }).beginStep .voidMark b x.position
          0xFFF7).programmer.op ≠ .idle := nofun
      rw [takeVoid_of_queue (s := s.setStore t) (hqueue.trans hv)] at htake
      replace htake := htake.trans (orTake_busy hbusy _)
      rw [htake]
      exact ⟨rfl, rfl⟩
    case erase0 => rw [hempty hv, hzero h0]; exact ⟨rfl, rfl, rfl, rfl⟩
    case erase1 => rw [hempty hv, hone h0 h1]; exact ⟨rfl, rfl, rfl, rfl⟩
    case idle => rw [hempty hv, hnone h0 h1]; exact ⟨hop, rfl, rfl, rfl, rfl⟩

end Sys2Proof.Machine
end

section
/-!
A bank erase begins by condemning (O47) and ends fresh or bad (O46).
-/

namespace Sys2Proof.Machine

theorem completeCount_eq (m : Nv) (xs : List Extent) :
    completeCount m xs = xs.countP fun x => recordState (nvRead m x.position) = .complete := by
  rw [completeCount, ← List.countP_eq_length_filter]
  exact List.countP_congr fun x _ => by simp [extentState]

theorem faultCondition_iff (s : State) (b : BankId) : s.faultCondition = true ↔ s.membership.state = .withdrawn
    ∨ (s.store.bank b).state = .bad ∨ (s.store.bank b.other).state = .bad ∨ s.store.stillBad = true
    ∨ s.setup.fault ≠ .none := by
  cases b <;> simp [State.faultCondition, Store.bank, BankId.other] <;> tauto

/-! ### A bank erase begins (R115) -/

section
variable {q : Orders} {b : BankId}

theorem bankErased_of_record {p n k : Nat} {w : Word} (h : q.stream = some (.record b p n k w)) :
    q.bankErased b = { q with stream := none, read := .none, outbox := some ⟨.absent, w⟩, replaced := true } := by
  rw [Orders.bankErased, h]
  exact if_pos rfl

theorem bankErased_of_other_record {p n k : Nat} {w : Word} (h : q.stream = some (.record b.other p n k w)) :
    q.bankErased b = q := by
  rw [Orders.bankErased, h]
  exact if_neg b.other_ne

theorem bankErased_of_status {k : Nat} (h : q.stream = some (.status k)) : q.bankErased b = q := by
  rw [Orders.bankErased, h]

end

section
variable (s : State) (b : BankId)

theorem beginBankErase_unread : (s.beginBankErase b).store.unread
    = s.store.unread - completeCount (s.arrays.bank b) (s.store.bank b).records := rfl

theorem beginBankErase_voidQueue {x : BankId × Extent} (h : x ∈ (s.beginBankErase b).store.voidQueue) : x.1 ≠ b :=
  bne_iff_ne.1 (List.mem_filter.1 h).2

/-- The header is condemned at the beginning (log entry 13). -/
theorem beginBankErase_header (h : s.arrays.wf = true) : nvRead ((s.beginBankErase b).arrays.bank b) 0 = 0 := by
  show nvRead ((s.arrays.setBank b (nvWrite (s.arrays.bank b) 0 0)).bank b) 0 = 0
  rw [Arrays.bank_setBank_self, nvRead_nvWrite (nvWf_rising (Arrays.wf_bank h b))]
  rfl

theorem beginBankErase_other_array : (s.beginBankErase b).arrays.bank b.other = s.arrays.bank b.other :=
  Arrays.bank_setBank_other s.arrays b _

/-- A bank that was BAD keeps FAULT while it is erased (log entry 30). -/
theorem beginBankErase_stillBad (h : (s.store.bank b).state = .bad) : (s.beginBankErase b).store.stillBad = true :=
  beq_iff_eq.2 h

end

/-- Settles O47: the erase as it begins, field by field. -/
theorem bankEraseBeginsByCondemning : Obligations.BankEraseBeginsByCondemning := by
  refine ⟨completeCount_eq, fun b s hwf => ?_⟩
  obtain ⟨hbank, hother⟩ := beginBankErase_spec s b
  refine ⟨hbank, hother, beginBankErase_unread s b, fun x => beginBankErase_voidQueue s b, beginBankErase_header s b hwf,
    beginBankErase_other_array s b, fun p n k q hq => ?stream, fun hbad => ?fault, fun k hq => bankErased_of_status hq,
    fun p n k q hq => bankErased_of_other_record hq⟩
  case stream =>
    have horders : (s.beginBankErase b).orders = _ := bankErased_of_record hq
    rw [horders]
    exact ⟨rfl, rfl, rfl⟩
  case fault => exact (faultCondition_iff _ b).2 (.inr (.inr (.inr (.inl (beginBankErase_stillBad s b hbad)))))

/-! ### A bank erase ends (R115, R129) -/

/-- The state at the end of a bank erase, before the next operation is taken. -/
def State.erased (s : State) (b : BankId) (unset : WordMasks) (missed : Word) : State :=
  ((s.setArrays (s.arrays.setBank b (erasedBank (s.arrays.bank b) unset missed))).setStore
    (if nvErase (s.arrays.bank b) unset = [] then s.store.eraseVerified b else s.store.eraseFailed b)).beginOp .idle

theorem exec_bankEraseDone_ends {s : State} {b : BankId} {h : Word} (hp : s.powered = true)
    (hop : s.programmer.op = .bankErase b h) (unset : WordMasks) (missed : Word) :
    exec (.bankEraseDone unset missed) s = .next (s.erased b unset missed).take.refreshFault := by
  rw [exec_bankEraseDone unset missed hp, State.bankEraseDone, hop]
  rfl

section
variable {t : Store} {b : BankId}

theorem eraseVerified_of_open (h : t.openBank = some b) :
    t.eraseVerified b = { t.setState b .opened with appendPoint := 1, stillBad := false } := if_pos h

theorem eraseVerified_of_not_open (h : t.openBank ≠ some b) :
    t.eraseVerified b = { t.setState b .fresh with stillBad := false } := if_neg h

theorem setState_bank (t : Store) (b : BankId) (v : BankState) : ((t.setState b v).bank b).state = v
    ∧ (t.setState b v).bank b.other = t.bank b.other ∧ (t.setState b v).openBank = t.openBank :=
  ⟨congrArg Bank.state (Store.bank_setBank_self t b _), Store.bank_setBank_other t b _, Store.setBank_openBank t b _⟩

/-- What the end of an erase does to the store: neither outcome touches the other bank or counts the bank as still BAD. -/
theorem eraseVerified_spec (t : Store) (b : BankId) : (t.eraseVerified b).bank b.other = t.bank b.other
    ∧ (t.eraseVerified b).stillBad = false
    ∧ (t.openBank ≠ some b → ((t.eraseVerified b).bank b).state = .fresh
      ∧ (t.eraseVerified b).openBank = t.openBank)
    ∧ (t.openBank = some b → ((t.eraseVerified b).bank b).state = .opened
      ∧ (t.eraseVerified b).openBank = some b ∧ (t.eraseVerified b).appendPoint = 1) := by
  by_cases h : t.openBank = some b
  · obtain ⟨hstate, hother, hopen⟩ := setState_bank t b .opened
    rw [eraseVerified_of_open h]
    exact ⟨by cases b <;> exact hother, rfl, fun hn => absurd h hn,
      fun _ => ⟨by cases b <;> exact hstate, hopen.trans h, rfl⟩⟩
  · obtain ⟨hstate, hother, hopen⟩ := setState_bank t b .fresh
    rw [eraseVerified_of_not_open h]
    exact ⟨by cases b <;> exact hother, rfl, fun _ => ⟨by cases b <;> exact hstate, hopen⟩, fun he => absurd he h⟩

theorem eraseFailed_spec (t : Store) (b : BankId) : (t.eraseFailed b).bank b.other = t.bank b.other
    ∧ (t.eraseFailed b).stillBad = false ∧ ((t.eraseFailed b).bank b).state = .bad
    ∧ (t.openBank = some b → (t.eraseFailed b).openBank = none) := by
  obtain ⟨hstate, hother, -⟩ := setState_bank t b .bad
  exact ⟨by cases b <;> exact hother, rfl, by cases b <;> exact hstate, fun h => if_pos h⟩

theorem eraseFailed_not_open (t : Store) (b : BankId) : (t.eraseFailed b).openBank ≠ some b := by
  by_cases h : t.openBank = some b
  · have hnone : (t.eraseFailed b).openBank = none := if_pos h
    rw [hnone]
    exact nofun
  · have hsame : (t.eraseFailed b).openBank = t.openBank := if_neg h
    rwa [hsame]

end

section
variable {m : Nv} {unset : WordMasks}

theorem erasedBank_of_verified (h : nvErase m unset = []) (missed : Word) : erasedBank m unset missed = [] :=
  (if_pos h).trans h

/-- A bank whose erase failed has its header programmed to 0000h. -/
theorem erasedBank_header_of_failed (hwf : nvWf Config.bankWords m = true) (h : nvErase m unset ≠ []) :
    nvRead (erasedBank m unset 0) 0 = 0 := by
  have hfailed : erasedBank m unset 0 = nvProgram Config.bankWords (nvErase m unset) 0 0 0 := if_neg h
  rw [hfailed, nvRead_nvProgram (nvErase_rising (nvWf_rising hwf) unset) (by decide), if_pos rfl]
  exact BitVec.and_zero

end

/-! ### A BAD bank through the taking of the next operation

A bank that is BAD and not the one open for records is still BAD after every level but the last; the last, its erase,
leaves it counting as BAD (R43). -/

/-- The bank is BAD, and the store does not write its records there. -/
def Store.OutOfUse (t : Store) (b : BankId) : Prop := (t.bank b).state = .bad ∧ t.openBank ≠ some b

section
variable {t : Store} {b c : BankId} (h : t.OutOfUse b)
include h

theorem Store.OutOfUse.setBank {v : Bank} (hv : c = b → v.state = .bad) : (t.setBank c v).OutOfUse b := by
  refine ⟨?_, by rw [Store.setBank_openBank]; exact h.2⟩
  rw [Store.bank_setBank]
  split
  next hb => exact hv hb.symm
  next => exact h.1

theorem Store.OutOfUse.ne_of_state (hc : (t.bank c).state ≠ .bad) : c ≠ b := fun hcb => hc (hcb ▸ h.1)

theorem Store.OutOfUse.addRecord (x : Extent) : (t.addRecord c x).OutOfUse b := h.setBank fun hc => hc ▸ h.1

theorem Store.OutOfUse.setPending : (t.setPending c).OutOfUse b := h.setBank fun hc => hc ▸ h.1

theorem Store.OutOfUse.openFresh (hc : (t.bank c).state = .fresh) : (t.openFresh c).OutOfUse b := by
  have hne : c ≠ b := h.ne_of_state (by rw [hc]; exact nofun)
  have hset : (t.setState c .opened).OutOfUse b := h.setBank fun hcb => absurd hcb hne
  exact ⟨by cases b <;> exact hset.1, fun ho => hne (Option.some.inj ho)⟩

theorem Store.OutOfUse.closeBank (hc : t.openBank = some c) : (t.closeBank c).OutOfUse b := by
  have hne : c ≠ b := fun hcb => h.2 (hcb ▸ hc)
  have hset : (t.setState c .closed).OutOfUse b := h.setBank fun hcb => absurd hcb hne
  exact ⟨by cases b <;> exact hset.1, nofun⟩

theorem Store.OutOfUse.reclaim (pol : StorePolicy) (m : Arrays) : (reclaim pol t m c).1.OutOfUse b := by
  unfold Machine.reclaim
  split
  · exact h.setPending
  · exact h

theorem Store.OutOfUse.roomNoOpen (pol : StorePolicy) (m : Arrays) : (roomNoOpen pol t m).1.OutOfUse b := by
  unfold Machine.roomNoOpen
  split
  next h0 => exact h.openFresh (c := .bank0) h0.1
  next =>
    split
    next h1 => exact h.openFresh (c := .bank1) h1.1
    next =>
      split
      · exact h
      · split
        · exact h.reclaim pol m
        · exact h

theorem Store.OutOfUse.roomCases (pol : StorePolicy) (m : Arrays) (n : Nat) : (roomCases pol t m n).1.OutOfUse b := by
  unfold Machine.roomCases
  split
  next c hc =>
    split
    · exact h
    · split
      · exact h
      · exact (h.closeBank hc).roomNoOpen pol m
  next => exact h.roomNoOpen pol m

end

theorem Store.OutOfUse.roomCheck {t : Store} {b : BankId} (h : t.OutOfUse b) (pol : StorePolicy) (m : Arrays) (n : Nat) :
    (roomCheck pol t m n).1.OutOfUse b := by
  cases b <;> exact h.roomCases pol m n

/-- The store of the state has the bank out of use. -/
abbrev State.OutOfUse (s : State) (b : BankId) : Prop := s.store.OutOfUse b

theorem State.OutOfUse.orTake {s : State} {b : BankId} {lower : State → State} (h : s.OutOfUse b)
    (hl : ∀ t : State, t.OutOfUse b → (lower t).OutOfUse b) : (s.orTake lower).OutOfUse b := by
  by_cases hop : s.programmer.op = .idle
  · rw [orTake_idle hop]
    exact hl s h
  · rwa [orTake_busy hop]

section
variable {s : State} {b : BankId} (h : s.OutOfUse b)
include h

theorem State.OutOfUse.takePulse : s.takePulse.OutOfUse b := by
  unfold State.takePulse
  split <;> exact h

theorem State.OutOfUse.takeVoid : s.takeVoid.OutOfUse b := by
  unfold State.takeVoid
  split <;> cases b <;> exact h

theorem State.OutOfUse.beginCommitWord (c : Commit) : (s.beginCommitWord c).OutOfUse b := by
  unfold State.beginCommitWord
  split
  · exact Store.OutOfUse.addRecord h _
  · split <;> exact h

theorem State.OutOfUse.takeSlot (c : BankId) : (s.takeSlot c).OutOfUse b := by
  unfold State.takeSlot
  split <;> exact h

theorem State.OutOfUse.continueCommit : s.continueCommit.OutOfUse b := by
  unfold State.continueCommit
  split
  · exact h.beginCommitWord _
  · exact h

theorem State.OutOfUse.beginCommit (c : BankId) : (s.beginCommit c).OutOfUse b := by
  unfold State.beginCommit
  split
  · exact h
  · exact (h.takeSlot c).continueCommit

theorem State.OutOfUse.takeRecord : s.takeRecord.OutOfUse b := by
  cases hc : s.programmer.commit with
  | some c => rw [takeRecord_of_commit hc]; exact h.beginCommitWord c
  | none =>
    cases hh : s.staging.head with
    | none => rw [takeRecord_of_no_record hc hh]; exact h
    | some x =>
      obtain ⟨i, p, w⟩ := x
      have hroom := Store.OutOfUse.roomCheck h s.settings.policy s.arrays w.length
      cases hr : roomCheck s.settings.policy s.store s.arrays w.length with
      | mk t r =>
        rw [hr] at hroom
        cases r with
        | commit c => rw [takeRecord_of_room hc hh hr]; exact State.OutOfUse.beginCommit (s := s.setStore t) hroom c
        | wait | full => rw [takeRecord_of_no_room hc hh hr nofun]; exact hroom

/-- The erase of a bank that is out of use leaves it counting as BAD. -/
theorem State.OutOfUse.takeErase_fault : s.takeErase.faultCondition = true := by
  have hbad (c : BankId) : (s.beginBankErase c).faultCondition = true := by
    by_cases hc : c = b
    · subst hc
      exact (faultCondition_iff _ c).2 (.inr (.inr (.inr (.inl (beginBankErase_stillBad s c h.1)))))
    · have hcb : b = c.other := by cases b <;> cases c <;> trivial
      refine (faultCondition_iff _ c).2 (.inr (.inr (.inl ?_)))
      rw [(beginBankErase_spec s c).2, ← hcb]
      exact h.1
  unfold State.takeErase
  split
  · exact hbad .bank0
  · split
    · exact hbad .bank1
    · exact (faultCondition_iff s b).2 (.inr (.inl h.1))

end

theorem takeMarks_store (js : List MarkJob) : ∀ s : State, (s.takeMarks js).store = s.store := by
  induction js with
  | nil => exact fun s => rfl
  | cons j js ih =>
    intro s
    have habsent : ((s.reportMark j.awaited ⟨.absent, j.number⟩).takeMarks js).store = s.store := by
      rw [ih]
      cases j.awaited <;> rfl
    unfold State.takeMarks
    split
    · split
      · rfl
      · exact habsent
    · exact habsent

/-- The next operation leaves FAULT to a bank that is BAD (R43). -/
theorem State.OutOfUse.take_fault {s : State} {b : BankId} (h : s.OutOfUse b) : s.take.faultCondition = true := by
  have hpulse := h.orTake (lower := State.takePulse) fun t ht => ht.takePulse
  have hmarks := hpulse.orTake (lower := fun s => s.takeMarks s.programmer.marks) fun t ht => by
    show (t.takeMarks t.programmer.marks).store.OutOfUse b
    rwa [takeMarks_store]
  have hrecord := hmarks.orTake (lower := State.takeRecord) fun t ht => ht.takeRecord
  have hvoid := hrecord.orTake (lower := State.takeVoid) fun t ht => ht.takeVoid
  unfold State.take
  by_cases hop : (((((s.orTake State.takePulse).orTake fun s => s.takeMarks s.programmer.marks).orTake
      State.takeRecord).orTake State.takeVoid).programmer.op) = .idle
  · rw [orTake_idle hop]
    exact hvoid.takeErase_fault
  · rw [orTake_busy hop]
    exact (faultCondition_iff _ b).2 (.inr (.inl hvoid.1))

section
variable {s : State} {b : BankId} {unset : WordMasks}

theorem erased_verified (h : nvErase (s.arrays.bank b) unset = []) (missed : Word) :
    (s.erased b unset missed).store = s.store.eraseVerified b ∧ (s.erased b unset missed).arrays.bank b = [] :=
  ⟨if_pos h, (Arrays.bank_setBank_self s.arrays b _).trans (erasedBank_of_verified h missed)⟩

theorem erased_failed (h : nvErase (s.arrays.bank b) unset ≠ []) (missed : Word) :
    (s.erased b unset missed).store = s.store.eraseFailed b := if_neg h

end

/-- Settles O46: by whether the erase left every word erased. -/
theorem bankEraseEndsFreshOrBad : Obligations.BankEraseEndsFreshOrBad := by
  intro b h unset missed s hp hwf hop
  obtain ⟨hvother, hvstill, hvfresh, hvopen⟩ := eraseVerified_spec s.store b
  obtain ⟨hfother, hfstill, hfbad, hfopen⟩ := eraseFailed_spec s.store b
  refine ⟨s.erased b unset missed, exec_bankEraseDone_ends hp hop unset missed, rfl,
    Arrays.bank_setBank_other s.arrays b _, Arrays.setBank_setup s.arrays b _, ?_⟩
  by_cases he : nvErase (s.arrays.bank b) unset = []
  · obtain ⟨hstore, hbank⟩ := erased_verified he missed
    rw [hstore, hbank]
    refine ⟨hvother, hvstill, fun _ => ⟨fun a => rfl, hvfresh, hvopen, fun hm hf hb => ?_⟩, fun hne => absurd he hne⟩
    have hgood : ((s.store.eraseVerified b).bank b).state ≠ .bad := by
      by_cases ho : s.store.openBank = some b
      · rw [(hvopen ho).1]; exact nofun
      · rw [(hvfresh ho).1]; exact nofun
    refine Bool.eq_false_iff.2 fun hfault => ?_
    rw [faultCondition_iff _ b, hstore, hvother, hvstill] at hfault
    rcases hfault with hfault | hfault | hfault | hfault | hfault
    · exact hm hfault
    · exact hgood hfault
    · exact hb hfault
    · exact Bool.false_ne_true hfault
    · exact hfault hf
  · have hstore := erased_failed he missed
    have hout : (s.erased b unset missed).OutOfUse b := by
      rw [State.OutOfUse, hstore]
      exact ⟨hfbad, eraseFailed_not_open s.store b⟩
    have hfault : (s.erased b unset missed).take.refreshFault.pins.faultLow = true := hout.take_fault
    rw [hstore]
    refine ⟨hfother, hfstill, fun hn => absurd hn he, fun _ => ⟨hfbad, hfopen, hfault, fun hz => ?_⟩⟩
    subst hz
    exact (congrArg (nvRead · 0) (Arrays.bank_setBank_self s.arrays b _)).trans
      (erasedBank_header_of_failed (Arrays.wf_bank hwf b) he)

end Sys2Proof.Machine
end

section
/-!
The setup pulses write the setup block (O50): the fourth program pulse and the eighth erase pulse (R171, R173).
-/

namespace Sys2Proof.Machine

theorem answerOwed_owed (s : State) (r : Reply) : (s.answerOwed true r).setup.owed = .none
    ∧ (s.answerOwed true r).orders.outbox = some r := ⟨rfl, rfl⟩

theorem answerOwed_keeps (s : State) (owed : Bool) (r : Reply) : (s.answerOwed owed r).programmer = s.programmer
    ∧ (s.answerOwed owed r).store = s.store ∧ (s.answerOwed owed r).arrays = s.arrays
    ∧ (s.answerOwed owed r).settings = s.settings := by
  cases owed <;> exact ⟨rfl, rfl, rfl, rfl⟩

/-! ### The pulse that writes -/

/-- The state after the setup block is written, its answer loaded, and before the next operation is taken. -/
def State.setupWritten (s : State) (m : Nv) (owed : Bool) (r : Reply) : State :=
  ((s.setArrays { s.arrays with setup := m }).beginOp .idle).answerOwed owed r

/-- What writing the setup block leaves as it was, and where it loads an answer. -/
structure SetupWritten (s u : State) (m : Nv) (owed : Bool) (r : Reply) : Prop where
  op : u.programmer.op = .idle
  store : u.store = s.store
  bank0 : u.arrays.bank0 = s.arrays.bank0
  bank1 : u.arrays.bank1 = s.arrays.bank1
  settings : u.settings = s.settings
  block : u.arrays.setup = m
  answered : owed = true → u.setup.owed = .none ∧ u.orders.outbox = some r
  unanswered : owed = false → u.orders = s.orders

theorem setupWritten_spec (s : State) (m : Nv) (owed : Bool) (r : Reply) :
    SetupWritten s (s.setupWritten m owed r) m owed r := by
  obtain ⟨hprogrammer, hstore, harrays, hsettings⟩ :=
    answerOwed_keeps ((s.setArrays { s.arrays with setup := m }).beginOp .idle) owed r
  exact {
    op := congrArg Programmer.op hprogrammer
    store := hstore
    bank0 := (congrArg Arrays.bank0 harrays).trans rfl
    bank1 := (congrArg Arrays.bank1 harrays).trans rfl
    settings := hsettings
    block := (congrArg Arrays.setup harrays).trans rfl
    answered := fun ho => by subst ho; exact answerOwed_owed _ r
    unanswered := fun ho => by subst ho; rfl }

section
variable {s : State} {k : Nat} {owed : Bool} (hp : s.powered = true)
include hp

theorem exec_setupProgramPulseDone_writes {i : Nat} {v : Word} (hop : s.programmer.op = .pulse (.program i v k owed))
    (hk : k = 4) (missed : Word) : exec (.setupProgramPulseDone missed) s
      = .next (s.setupWritten (nvProgram Config.setupWords s.arrays.setup i v missed) owed
          (programPulseReply (nvRead s.arrays.setup i) v missed)).take.refreshFault := by
  rw [exec_setupProgramPulseDone missed hp, State.setupProgramPulseDone, hop]
  exact congrArg (fun t : State => Host.Outcome.next t.refreshFault) (if_pos hk)

theorem exec_setupProgramPulseDone_idles {i : Nat} {v : Word} (hop : s.programmer.op = .pulse (.program i v k owed))
    (hk : k ≠ 4) (missed : Word) :
    exec (.setupProgramPulseDone missed) s = .next (s.beginOp .idle).take.refreshFault := by
  rw [exec_setupProgramPulseDone missed hp, State.setupProgramPulseDone, hop]
  exact congrArg (fun t : State => Host.Outcome.next t.refreshFault) (if_neg hk)

theorem exec_setupErasePulseDone_writes (hop : s.programmer.op = .pulse (.erase k owed)) (hk : k = 8)
    (unset : WordMasks) : exec (.setupErasePulseDone unset) s
      = .next (s.setupWritten (nvErase s.arrays.setup unset) owed
          (erasePulseReply (nvErase s.arrays.setup unset))).take.refreshFault := by
  rw [exec_setupErasePulseDone unset hp, State.setupErasePulseDone, hop]
  exact congrArg (fun t : State => Host.Outcome.next t.refreshFault) (if_pos hk)

theorem exec_setupErasePulseDone_idles (hop : s.programmer.op = .pulse (.erase k owed)) (hk : k ≠ 8)
    (unset : WordMasks) : exec (.setupErasePulseDone unset) s = .next (s.beginOp .idle).take.refreshFault := by
  rw [exec_setupErasePulseDone unset hp, State.setupErasePulseDone, hop]
  exact congrArg (fun t : State => Host.Outcome.next t.refreshFault) (if_neg hk)

end

section
variable {m : Arrays} (hwf : m.wf = true)
include hwf

theorem setup_rising : nvRising m.setup := nvWf_rising ((Arrays.wf_iff m).1 hwf).2.2

theorem programmedBlock_self {i : Nat} (hi : i < 31) (v missed : Word) :
    nvRead (nvProgram Config.setupWords m.setup i v missed) i = programmedWord (nvRead m.setup i) v missed :=
  (nvRead_nvProgram (setup_rising hwf) hi v missed i).trans (if_pos rfl)

theorem programmedBlock_other {i a : Nat} (hi : i < 31) (ha : a ≠ i) (v missed : Word) :
    nvRead (nvProgram Config.setupWords m.setup i v missed) a = nvRead m.setup a :=
  (nvRead_nvProgram (setup_rising hwf) hi v missed a).trans (if_neg ha)

end

/-- Settles O50: each kind of pulse by whether its position is the one that writes. -/
theorem setupPulsesWriteTheBlock : Obligations.SetupPulsesWriteTheBlock := by
  refine ⟨fun i v k owed missed s hp hwf hi hop => ?program, fun k owed unset s hp hwf hop => ?erase⟩
  case program =>
    by_cases hk : k = 4
    · have hu := setupWritten_spec s (nvProgram Config.setupWords s.arrays.setup i v missed) owed
        (programPulseReply (nvRead s.arrays.setup i) v missed)
      have hself := programmedBlock_self hwf hi v missed
      refine ⟨_, exec_setupProgramPulseDone_writes hp hop hk missed, hu.op, hu.store, hu.bank0, hu.bank1, hu.settings,
        fun hn => absurd hk hn, fun _ => ?_⟩
      rw [hu.block, hself]
      exact ⟨rfl, fun a ha => programmedBlock_other hwf hi ha v missed, hu.answered, hu.unanswered⟩
    · exact ⟨s.beginOp .idle, exec_setupProgramPulseDone_idles hp hop hk missed, rfl, rfl, rfl, rfl, rfl,
        fun _ => ⟨rfl, rfl⟩, fun h4 => absurd h4 hk⟩
  case erase =>
    by_cases hk : k = 8
    · have hu := setupWritten_spec s (nvErase s.arrays.setup unset) owed (erasePulseReply (nvErase s.arrays.setup unset))
      refine ⟨_, exec_setupErasePulseDone_writes hp hop hk unset, hu.op, hu.store, hu.bank0, hu.bank1, hu.settings,
        fun hn => absurd hk hn, fun _ => ?_⟩
      rw [hu.block]
      exact ⟨nvRead_nvErase (setup_rising hwf) unset, hu.answered, hu.unanswered⟩
    · exact ⟨s.beginOp .idle, exec_setupErasePulseDone_idles hp hop hk unset, rfl, rfl, rfl, rfl, rfl,
        fun _ => ⟨rfl, rfl⟩, fun h8 => absurd h8 hk⟩

end Sys2Proof.Machine
end
